-- ==== Sys2Proof/Word.lean ====
section
/-! DEFINITION. The word types of the part (R186, R203, R219) and how a word is cut into fields. -/

namespace Sys2Proof

/-- A word of the Machine Line and of the store array: 16 bits (R186, R203). -/
abbrev Word := BitVec 16

/-- A byte of the display frame or of the line (R167, R203). -/
abbrev Byte := BitVec 8

/-- A character on the wire: start bit (bit 9), eight data bits (bits 8..1), stop bit (bit 0) (R203). -/
abbrev WireChar := BitVec 10

end Sys2Proof
end

