-- ==== Sys2Proof/Syntax.lean ====
section
/-! DEFINITION. The commands of the part: one constructor per row of spec/opcode_table.json, in the table's
order. An operand is what the outside shows the part at that moment. -/

namespace Sys2Proof

/-- The eight channels of the Producer Table (R57), in the order of the STATUS page (R183). -/
inductive Channel where
  | head | rod | boom | bucket | pitch | drive | time | truck
deriving DecidableEq, Repr

/-- The two producer slots of a channel (R58): slot 1, the primary, and slot 2, the secondary. -/
inductive SlotId where
  | primary | secondary
deriving DecidableEq, Repr

/-- The seven strap lines as read at a start (R221): STN0..STN4 as one number, STN0 least significant,
and the two rate straps of R203. -/
structure Straps where
  station : BitVec 5
  rate0 : Bool
  rate1 : Bool
deriving DecidableEq, Repr

/-- The commands: one constructor per row of spec/opcode_table.json. -/
inductive Instr where
  /-- POWER_ON (R226): the supply rises, with the straps as they stand. -/
  | powerOn (straps : Straps)
  /-- RESET_LINE_LOW (R226): the reset line, or a failing supply, is held low. -/
  | resetLineLow
  /-- RESET_LINE_RELEASE (R226): the reset line rises, with the straps as they stand. -/
  | resetLineRelease (straps : Straps)
  /-- JOIN (R221): the start steps end. -/
  | join
  /-- KEY_SWITCH_EDGE (R220): the key-switch line changes to the given level. -/
  | keySwitchEdge (high : Bool)
  /-- KEY_SWITCH_LEVEL_CHANGE (R220): the line has stood for 100 ms at the level of `on`; the straps are
  those a key-on from STANDBY reads. -/
  | keySwitchLevelChange (on : Bool) (straps : Straps)
  /-- JOIN_END (R222): the JOIN timer reaches 500 ms. -/
  | joinEnd
  /-- BLANK_FRAME (R172): the blank frame of STANDBY is sent. -/
  | blankFrame
  /-- RESTART (R225): the pending restart begins START, with the straps as they stand. -/
  | restart (straps : Straps)
  /-- TELEGRAM_RECEIVED (R206): a telegram ends on the line; its characters as read. -/
  | telegramReceived (chars : List WireChar)
  /-- DISPATCH (R208). -/
  | dispatch
  /-- LINK_SILENCE (R60): the link age of this slot reaches 1,000 ms. -/
  | linkSilence (ch : Channel) (slot : SlotId)
  /-- VALUE_STALE (R65): the value age of this slot reaches its channel's fresh time. -/
  | valueStale (ch : Channel) (slot : SlotId)
  /-- IDLE_GAP (R210): the line has been recessive for 12 bit times. -/
  | idleGap
  /-- DEFER_SLOT (R210): a slot of 2 bit times ends without carrier. -/
  | deferSlot
  /-- CARRIER (R210): carrier is heard. -/
  | carrier
  /-- TRANSMIT_SUCCESS (R212): the CRC word has been sent without a mismatch. -/
  | transmitSuccess
  /-- COLLISION (R212): a bit is read back at a level other than the one sent. -/
  | collision
  /-- HEARTBEAT (R216): the HEARTBEAT timer runs out. -/
  | heartbeat
  /-- INPUT_LOST (R21): the Weigher's input timer reaches 250 ms. -/
  | inputLost
  /-- STALL (R22): the stall timer reaches 3.0 s. -/
  | stall
  /-- RESOLUTION_REPORT (R31): the Weigher takes a resolution report. -/
  | resolutionReport
  /-- CAPTURE_INPUT_LOST (R49): the capture's input timer reaches 250 ms. -/
  | captureInputLost
  /-- KEY_READ (R173): a 20 ms mark; the eight bits read, bit 0 the first bit read (PAGE). -/
  | keyRead (levels : BitVec 8)
  /-- DELETE_HOLD_EXPIRY (R176): the delete hold reaches 2.0 s. -/
  | deleteHoldExpiry
  /-- DUMP_EVENT (R84): the Pass Unit takes a dump event. -/
  | dumpEvent
  /-- COMMIT_REPORT (R141): the Cycle Tracker takes a commit report. -/
  | commitReport
  /-- BOOM_BELOW_EVENT (R89): the Pass Unit takes a boom-below event. -/
  | boomBelowEvent
  /-- PHASE_TIMER_LIMIT (R139): the phase timer reaches 65,535. -/
  | phaseTimerLimit
  /-- CALENDAR_SECOND (R147): the second phase reaches 1,000 ms. -/
  | calendarSecond
  /-- LOCKOUT_EXPIRY (R154): the lockout reaches 0. -/
  | lockoutExpiry
  /-- FRAME_BEGIN (R169): a due frame begins. -/
  | frameBegin
  /-- FRAME_LATCH (R168): the frame's 43 bytes have been shifted and the latch pulse is given. -/
  | frameLatch
  /-- MESSAGE_TIMER_EXPIRY (R179): the message timer runs out. -/
  | messageTimerExpiry
  /-- JOURNAL_RECORD_WRITTEN (R191): the check word of the record being programmed is verified. -/
  | journalRecordWritten
  /-- READ_SERVED (R201): the array serves a read request. -/
  | readServed
  /-- PROGRAM_FAILURE (R196): a word program has not been verified within 1 ms. -/
  | programFailure
  /-- ERASE_DONE (R195): every word of the sector reads 0xFFFF. -/
  | eraseDone
  /-- ERASE_FAILED (R195): the erase is not done after 1.5 s of erasing. -/
  | eraseFailed
deriving DecidableEq, Repr

end Sys2Proof
end

