-- ==== Sys2Proof/Machine/Arith.lean ====
section
/-! DEFINITION. The arithmetic of R1 and R2: saturating counters, clamping, rounding half away from zero. -/

namespace Sys2Proof.Machine

/-- The limit of a counter whose chapter gives it no other width (R2). -/
def limit16 : Nat := 65535

/-- The limit of a 32-bit figure (R157). -/
def limit32 : Nat := 4294967295

/-- Increase a saturating figure by `k` (R2). -/
def satAdd (limit n k : Nat) : Nat := min limit (n + k)

/-- Increase a 16-bit counter by one (R2). -/
def inc (n : Nat) : Nat := satAdd limit16 n 1

/-- Decrease a saturating figure: at its limit it stays there, and it never falls below 0 (R2, R159). -/
def satSub (limit n k : Nat) : Nat := if n = limit then n else n - k

/-- The sum of counters, saturating at 65,535 (R183, R217). -/
def satSum (ns : List Nat) : Nat := min limit16 ns.sum

/-- "Clamped to a..b" (R1). -/
def clamp (lo hi x : Int) : Int := if x < lo then lo else if hi < x then hi else x

/-- A quotient with a positive divisor, rounded half away from zero (R1). -/
def roundDiv (n d : Int) : Int :=
  if 0 ≤ n then (2 * n + d) / (2 * d) else -((2 * -n + d) / (2 * d))

/-- Add to a timer that stops at its limit. -/
def countUp (limit t : Nat) : Nat := min limit (t + 1)

/-- A running timer has reached its limit. -/
def reached (limit : Nat) (t : Option Nat) : Bool := t.any (fun n => limit ≤ n)

end Sys2Proof.Machine
end

