-- ==== Sys2Proof/Config.lean ====
section
/-! DEFINITION. The values the spec leaves open. Each is an opaque constant: nothing can be proved of it, so a
claim holds whatever it is. The first argument of the first three is the model's counter of free values used. -/

namespace Sys2Proof

/-- How many words of a record had been programmed when its program was cut (R202, R226) or failed (R196).
Log entries 8 and 9. -/
opaque Config.wordsProgrammed : Nat → Nat

/-- Bits of the word being programmed that had not turned to 0 when its program was cut or failed
(R196, R202). Log entries 8 and 9. -/
opaque Config.bitsLeft : Nat → Word

/-- Bits that a cut or failed erase had set in the word at the given address (R195, R202). Log entry 10. -/
opaque Config.bitsErased : Nat → Nat → Word

/-- Which word of the sector a cut or failed erase has left as it was, where the bits above would leave the
sector wholly erased (R186, R226). Log entry 10. -/
opaque Config.wordKept : Nat → Nat

/-- Whether a curves-present word that is neither 0 nor 1 (R219) is read as present. Log entry 11. -/
opaque Config.curvesMark : Word → Bool

/-- The open time after the correction of R161, where it falls outside the calendar's range: a
stamp of 32 bits. Log entry 12. -/
opaque Config.openTimeOutside : Int → BitVec 32

end Sys2Proof
end

