-- ==== Sys2Proof/Machine/Crc.lean ====
section
/-! DEFINITION. The CRC of telegrams and the check word of journal records (R204). -/

namespace Sys2Proof.Machine

/-- One bit into the CRC with generator x^16 + x^12 + x^5 + 1 (R204). -/
def crcBit (crc : Word) (bit : Bool) : Word :=
  if crc.msb != bit then (crc <<< 1) ^^^ 0x1021#16 else crc <<< 1

/-- Bits n-1 down to 0 of a word into the CRC. -/
def crcBits (w : Word) : Nat → Word → Word
  | 0, crc => crc
  | n + 1, crc => crcBits w n (crcBit crc (w.getLsbD n))

/-- The CRC over words, each most significant bit first, from 0xFFFF, with no final inversion (R204). -/
def crc (ws : List Word) : Word := ws.foldl (fun c w => crcBits w 16 c) 0xFFFF#16

/-- The check word of a journal record: the low 15 bits of the CRC, bit 15 being 0 (R187, R204). -/
def checkWord (ws : List Word) : Word := crc ws &&& 0x7FFF#16

end Sys2Proof.Machine
end

