-- ==== Sys2Proof/Machine/Blocks.lean ====
section
/-! DEFINITION. The records each block of the part holds, field by field as the spec's tables give them.
Masses are kg, pressures kPa, forces N, angles 0.01 degree, fills permille, all integers (00_scope.md,
Conventions); a calendar stamp is the number of seconds from 2000-01-01 00:00:00 (R219). -/

namespace Sys2Proof.Machine

/-! ## Mode Controller and pins (R220) -/

/-- The mode of the part (R220). -/
inductive Mode where
  | start | join | run | service | closing | standby
deriving DecidableEq, Repr

/-- The four line rates (R203). -/
inductive LineRate where
  | kbit125 | kbit250 | kbit500 | kbit1000
deriving DecidableEq, Repr

/-- The levels of the input pins (chapter 11.6). -/
structure Pins where
  /-- RSTN is held low, or the supply has failed (R226). -/
  resetLow : Bool
  straps : Straps
  /-- KEYSW: high is key on (R220). -/
  keySwitchHigh : Bool
  /-- The level of each key as the next key read would find it, bit 0 PAGE (R173). -/
  keyLevels : BitVec 8
deriving DecidableEq, Repr

/-- The Mode Controller's state (R220). -/
structure ModeCtl where
  mode : Mode
  /-- Station number, 0..31. -/
  station : Nat
  rate : LineRate
  listenOnly : Bool
  /-- Key-switch level ON. -/
  keyOn : Bool
  /-- Stability timer, 0..100 ms. -/
  stability : Nat
  /-- JOIN timer, 0..500 ms. -/
  joinTimer : Nat
  restartPending : Bool
deriving DecidableEq, Repr

/-! ## Sample sets (R73) and the Weigher (R3) -/

/-- A sample set: the fields and flags of R73. -/
structure SampleSet where
  ph : Int
  pr : Int
  theta : Int
  beta : Int
  /-- Chassis pitch; absent exactly when the set carries NO_SLOPE. -/
  phi : Option Int
  degraded : Bool
  disagree : Bool
deriving DecidableEq, Repr

/-- The Weigher's six states (chapter 1.1). -/
inductive WeigherState where
  | noCal | off | below | inWindow | above | held
deriving DecidableEq, Repr

/-- Reasons of a lift abort (R24). -/
inductive AbortReason where
  | reverse | tilt | inputLost | stall | boomLost | short
deriving DecidableEq, Repr

/-- The lift flags (R3): a set drawn from DEGRADED, SLOPE, NO_SLOPE. -/
structure LiftFlags where
  degraded : Bool
  slope : Bool
  noSlope : Bool
deriving DecidableEq, Repr

/-- The accumulator of a lift (R3). -/
structure Accumulator where
  sum : Int
  count : Nat
  min : Option Int
  max : Option Int
  flags : LiftFlags
  disagree : Nat
  thMax : Option Int
  stallRef : Option Int
  /-- Stopped, or ms since the last set delivered in the lift. -/
  inputTimer : Option Nat
  /-- Stopped, or ms since the stall reference advanced. -/
  stallTimer : Option Nat
deriving DecidableEq, Repr

/-- The Weigher (R3). -/
structure Weigher where
  state : WeigherState
  acc : Accumulator
  z : Int
  zeroArmed : Bool
  lastBoom : Option Int
  unracked : Nat
deriving DecidableEq, Repr

/-! ## Machine record and Calibration Unit (R34 to R56) -/

/-- The two force curves and the reference load (R34). -/
structure Curves where
  empty : Vector Int 16
  loaded : Vector Int 16
  refLoad : Int
deriving DecidableEq, Repr

/-- A machine record (R34), in the order of its indexes. -/
structure MachineRecord where
  headArea : Int
  rodArea : Int
  thetaLo : Int
  thetaHi : Int
  betaMin : Int
  betaDump : Int
  volume : Int
  rho1 : Int
  rho2 : Int
  rho3 : Int
  rho4 : Int
  defaultTarget : Int
  overTolerance : Int
  emptyThreshold : Int
  spreadLimit : Int
  /-- Shift-change points: -1 disabled, otherwise minutes after midnight. -/
  point1 : Int
  point2 : Int
  point3 : Int
  curves : Option Curves
deriving DecidableEq, Repr

/-- Reasons of CAL_FAILED (chapter 2.4). -/
inductive CalFailure where
  | gap | span | noPitch | save
deriving DecidableEq, Repr

/-- The capture states (chapter 2.4). -/
inductive CaptureState where
  | idle | emptyArmed | emptyDone | refEntry | loadedArmed | check | saving | done
  | failed (reason : CalFailure)
deriving DecidableEq, Repr

/-- The phase of an armed capture (R46, R47). -/
inductive CapturePhase where
  | awaitBelow | awaitEntry | inCapture
deriving DecidableEq, Repr

/-- One capture bin (R46). -/
structure Bin where
  sum : Int
  count : Nat
deriving DecidableEq, Repr

/-- Who started the save in progress (R42, R54). -/
inductive SaveOrigin where
  | settings | capture
deriving DecidableEq, Repr

/-- The Calibration Unit (R35, R36, R46). -/
structure Calibration where
  active : MachineRecord
  working : Option MachineRecord
  capture : CaptureState
  phase : CapturePhase
  bins : Vector Bin 16
  thMax : Option Int
  inputTimer : Option Nat
  candEmpty : Option (Vector Int 16)
  candLoaded : Option (Vector Int 16)
  /-- The capture's M_ref, taken when the loaded capture is armed (R52). -/
  candRef : Int
  /-- The reference entry value. -/
  refEntry : Int
  save : Option SaveOrigin
  recordRejections : Nat
  refusedSettings : Nat
deriving DecidableEq, Repr

/-! ## Producer Table (R58) -/

/-- Slot states (R58). -/
inductive SlotState where
  | empty | active | silent | faulty
deriving DecidableEq, Repr

/-- The status of a value (R57). -/
inductive Status where
  | ok | over | fault
deriving DecidableEq, Repr

/-- A producer slot (R58). The value of a DRIVE slot is its direction code of R219
(0 NEUTRAL, 1 FORWARD, 2 REVERSE, any other not valid). -/
structure Slot where
  station : Option Nat
  state : SlotState
  lastValue : Option Int
  lastStatus : Option Status
  lastSeq : Option Nat
  resync : Bool
  linkAge : Option Nat
  valueAge : Option Nat
  lost : Nat
  duplicate : Nat
  disagree : Nat
deriving DecidableEq, Repr

/-- The two slots of a channel and its extra counter (R58). -/
structure ChannelSlots where
  slot1 : Slot
  slot2 : Slot
  extra : Nat
deriving DecidableEq, Repr

/-- The Producer Table (R58). -/
structure ProducerTable where
  channels : Vector ChannelSlots 8
  skipped : Nat
  rejected : Nat
deriving DecidableEq, Repr

/-- Channel states (R69). -/
inductive ChannelState where
  | notLearned | primary | secondary | unavailable
deriving DecidableEq, Repr

/-! ## Pass Unit (R79) -/

/-- The four materials (R82). -/
inductive Material where
  | m1 | m2 | m3 | m4
deriving DecidableEq, Repr

/-- The quality flags of a pass (R29). -/
structure QualityFlags where
  spread : Bool
  disagree : Bool
  degraded : Bool
  slope : Bool
  noSlope : Bool
deriving DecidableEq, Repr

/-- A pass record (R79). -/
structure PassRecord where
  weight : Int
  fill : Int
  flags : QualityFlags
  samples : Nat
  stamp : Nat
  material : Material
deriving DecidableEq, Repr

/-- The Pass Unit (R79). It is PENDING exactly while `pending` is present. -/
structure PassUnit where
  pending : Option PassRecord
  material : Material
  lastShown : Option PassRecord
deriving DecidableEq, Repr

/-! ## Truck List (R101) -/

/-- A committed pass record (R101). -/
structure CommittedPass where
  number : Nat
  weight : Int
  flags : QualityFlags
deriving DecidableEq, Repr

/-- A truck's flags (R101). -/
structure TruckFlags where
  overload : Bool
  quality : Bool
deriving DecidableEq, Repr

/-- A truck entry (R101). -/
structure TruckEntry where
  identity : Option (BitVec 32)
  target : Int
  passes : List CommittedPass
  total : Int
  flags : TruckFlags
deriving DecidableEq, Repr

/-- The Truck List (R101); the head is the first entry (R102). -/
structure TruckList where
  entries : List TruckEntry
  refused : Nat
  unknown : Nat
deriving DecidableEq, Repr

/-- Close reasons (R115). -/
inductive CloseReason where
  | departed | next | passLimit | shiftChange | keyOff
deriving DecidableEq, Repr

/-- Loading advice (R118). -/
inductive Advice where
  | none | lastPass | full
deriving DecidableEq, Repr

/-- The position a TRUCK_STATE reports (R121). -/
inductive TruckPosition where
  | head | waiting | closed (reason : CloseReason)
deriving DecidableEq, Repr

/-! ## Cycle Tracker (R125) -/

/-- Phases of a load cycle (R125). -/
inductive Phase where
  | dig | loaded | dump | ret
deriving DecidableEq, Repr

/-- The drive latch (R125). -/
inductive DriveLatch where
  | none | reverseSeen | met
deriving DecidableEq, Repr

/-- The flags of a cycle (R125). -/
structure CycleFlags where
  weighed : Bool
  long : Bool
  noDrive : Bool
  shake : Bool
  noReverse : Bool
deriving DecidableEq, Repr

/-- A cycle record (R125); times in 0.1 s. -/
structure CycleRecord where
  number : Nat
  dig : Nat
  loaded : Nat
  dump : Nat
  ret : Nat
  total : Nat
  shakes : Nat
  flags : CycleFlags
  stamp : Option Nat
deriving DecidableEq, Repr

/-- The Cycle Tracker (R125). `timerSub` is the model's own: ms within the present 0.1 s. -/
structure CycleTracker where
  phase : Phase
  hold : Bool
  timer : Nat
  timerSub : Nat
  current : CycleRecord
  last : Option CycleRecord
  lastShift : Option Nat
  lastBoom : Option Int
  lastBucket : Option Int
  latch : DriveLatch
  lowSeen : Bool
deriving DecidableEq, Repr

/-! ## Shift Clock (R146) and Shift Tally (R157) -/

/-- A calendar reading (R146). -/
structure Calendar where
  year : Nat
  month : Nat
  day : Nat
  hour : Nat
  minute : Nat
  second : Nat
deriving DecidableEq, Repr

/-- The Shift Clock (R146). -/
structure ShiftClock where
  calendar : Calendar
  /-- ms elapsed in the present second. -/
  secondPhase : Nat
  timeSet : Bool
  /-- Stopped, or the ms remaining of 60 min. -/
  lockout : Option Nat
  refusedTimes : Nat
deriving DecidableEq, Repr

/-- The figures of the open shift (R157). -/
structure ShiftFigures where
  shift : Nat
  openTime : Nat
  openTimeSet : Bool
  cycles : Nat
  passes : Nat
  trucks : Nat
  payload : Nat
  unweighed : Nat
  empties : Nat
  aborted : Nat
  carriedBack : Nat
  redigs : Nat
  cycleTimeSum : Nat
deriving DecidableEq, Repr

/-! ## Display Controller (R166) -/

/-- The four pages (R166). -/
inductive Page where
  | load | bucket | shift | status
deriving DecidableEq, Repr

/-- Every text the manual places on the message line, by what it says. -/
inductive Message where
  | liftAborted (reason : AbortReason)      -- R24
  | zeroSet | zeroTooLarge                  -- R27
  | zeroArmed | zeroCancelled | noCalibration   -- R32
  | calRestart                              -- R41
  | calRefusedNoPitch                       -- R45, R52
  | captAborted (reason : AbortReason)      -- R49
  | gapAtPoint (k : Nat)                    -- R51
  | spanAtPoint (k : Nat)                   -- R53
  | calCancelled                            -- R55
  | material (m : Material) (rho : Int)     -- R82
  | passCarriedBack                         -- R89
  | passDiscarded                           -- R91
  | passLimitClosed | truckDeparted | truckClosed   -- R115
  | truckListFull                           -- R109
  | truckToEnd | truckRemoved | noPasses | noTruck   -- R111
  | passDeleted (n : Nat) | nothingToDelete -- R112
  | shiftOpen (n : Nat)                     -- R156
deriving DecidableEq, Repr

/-- The display port (R166). -/
inductive Port where
  | free | shifting | reading
deriving DecidableEq, Repr

/-- The eight keys, in the order in which a key read finds them (R173). -/
inductive Key where
  | page | zero | next | delete | material | up | down | enter
deriving DecidableEq, Repr

/-- The state of one key (R166). -/
structure KeyState where
  pressed : Bool
  lastScan : Option Bool
  run : Nat
deriving DecidableEq, Repr

/-- The Display Controller (R166), with the image in flight and the image the drivers show (R167, R168). -/
structure Display where
  page : Page
  statusItem : Nat
  message : Option Message
  /-- Stopped, or ms remaining of 3.0 s. -/
  messageTimer : Option Nat
  stale : Bool
  /-- Last frame start, held as the ms since it; absent before the first frame. -/
  sinceFrame : Option Nat
  port : Port
  keys : Vector KeyState 8
  /-- Stopped, or ms for which DELETE has been held. -/
  deleteHold : Option Nat
  /-- The bytes of the frame in flight. -/
  image : List Byte
  /-- The bytes last latched into the drivers; absent before any latch pulse. -/
  glass : Option (List Byte)
  /-- ms since the last mark of the key schedule; absent before the first frame (R172). -/
  keyMark : Option Nat
  /-- A key read is due and has not begun (R172). -/
  readWaiting : Bool
  /-- The blank frame of STANDBY has not been sent yet (R172). -/
  blankDue : Bool
deriving DecidableEq, Repr

/-! ## Tally Journal (R186 to R202) -/

/-- Record kinds (R187). -/
inductive RecordKind where
  | machine | truckClosed | shiftSnapshot | shiftClosed
deriving DecidableEq, Repr

/-- Sector states (R189). -/
inductive SectorState where
  | erased | active | full | erasing | faulted
deriving DecidableEq, Repr

/-- A record of the readable set (R189): where it lies, its kind, its length in words, its sequence number. -/
structure RecordRef where
  sector : Nat
  addr : Nat
  kind : RecordKind
  length : Nat
  seq : Nat
deriving DecidableEq, Repr

/-- An append request (R190); the number is the one it took when its programming first began (R188). -/
structure AppendRequest where
  kind : RecordKind
  body : List Word
  seq : Option Nat
deriving DecidableEq, Repr

/-- A copy in the carry list (R194): of which record, and as what. -/
structure CarryCopy where
  original : Nat
  kind : RecordKind
  body : List Word
  seq : Option Nat
deriving DecidableEq, Repr

/-- The record being programmed (R191): from the carry list or the append queue, where, its words. -/
structure ProgramJob where
  fromCarry : Bool
  sector : Nat
  addr : Nat
  kind : RecordKind
  seq : Nat
  words : List Word
deriving DecidableEq, Repr

/-- The array's operation state (chapter 9.4). The table names none for a read served with no erase held, where the
model keeps IDLE (DESIGN CHOICE, log entry 53). -/
inductive ArrayOp where
  | idle | programming | erasing | eraseSuspended
deriving DecidableEq, Repr

/-- The journal state (R197). -/
inductive JournalState where
  | ok | degraded | fault
deriving DecidableEq, Repr

/-- A cell of the store array: address (1,024 x sector + word) and the word it holds. -/
abbrev StoreCell := Nat × Word

/-- The Tally Journal (R186 to R202). -/
structure Journal where
  /-- The non-volatile store array: addresses strictly rising, no entry equal to 0xFFFF (R186). -/
  store : List StoreCell
  sectors : Vector SectorState 4
  fill : Nat
  lastActive : Nat
  readable : List RecordRef
  nextSeq : Nat
  appendQueue : List AppendRequest
  readQueue : List Nat
  serving : Option Nat
  carry : List CarryCopy
  job : Option ProgramJob
  op : ArrayOp
  /-- The erase-ahead target whose copies are not all written (R194). -/
  target : Option Nat
  /-- The sector whose erase is pending, in progress or held (R193). -/
  eraseSector : Option Nat
  /-- ms of erasing counted (R186). -/
  eraseTime : Nat
  mark : Bool
  /-- An erase-ahead that begins when the erase in progress ends (R193). -/
  deferred : Bool
  jstate : JournalState
  lostAppends : Nat
  lostReads : Nat
  programFailures : Nat
  eraseFailures : Nat
  torn : Nat
  bad : Nat
  closed : Nat
  drainAsked : Bool
deriving DecidableEq, Repr

/-! ## Line Interface (R205) -/

/-- The kinds of the kind table (R219). -/
inductive Kind where
  | head | rod | boom | bucket | pitch | drive | time | announce | depart
  | heartbeat | passResult | truckState | cycle | settings | settingsAnswer | journalRead | journalRecord
deriving DecidableEq, Repr

/-- A good telegram in the inbox (R207): the header fields dispatch needs, and the data words. -/
structure RxTelegram where
  sender : Nat
  kind : Kind
  seq : Nat
  data : List Word
deriving DecidableEq, Repr

/-- The kinds the part sends (R216). -/
inductive TxKind where
  | heartbeat | passResult | truckState | cycle | settingsAnswer | journalRecord
deriving DecidableEq, Repr

/-- A telegram of the transmit queue (R205, R214). -/
structure TxTelegram where
  kind : TxKind
  seq : Nat
  data : List Word
  attempts : Nat
  /-- It is being sent (R211). -/
  sending : Bool
deriving DecidableEq, Repr

/-- Access states (R210). -/
inductive Access where
  | silent | waitIdle | defer | send
deriving DecidableEq, Repr

/-- The Line Interface (R205). -/
structure LineInterface where
  listening : Bool
  inbox : List RxTelegram
  queue : List TxTelegram
  access : Access
  slotCount : Nat
  collisions : Nat
  clash : Bool
  sendSeq : Vector Nat 6
  /-- Stopped, or ms remaining of 1,000. -/
  heartbeat : Option Nat
  receiveErrors : Vector Nat 17
  unknownKinds : Nat
  overrun : Nat
  dropped : Nat
  attempts : Nat
deriving DecidableEq, Repr

/-! ## Events on their way between blocks -/

/-- Events one block has raised and another has not taken yet (R84, R89, R93, R138, R141). -/
structure Mail where
  /-- Cycle tags of dump events, oldest first. -/
  dumps : List Nat
  boomBelow : Nat
  /-- Cycle tags of commit reports, oldest first. -/
  commits : List Nat
  resolutions : Nat
deriving DecidableEq, Repr

end Sys2Proof.Machine
end

