-- ==== Sys2Proof/Machine/Flags.lean ====
section
/-! DEFINITION. Flag sets: how they are formed, tested for emptiness, and laid out in words (R29, R103, R219). -/

namespace Sys2Proof.Machine

/-- One flag at its bit. -/
def flagBit (b : Bool) (n : Nat) : Word := if b then (1#16 <<< n) else 0#16

/-- The pass quality flags as bits 0..4 (R219). -/
def QualityFlags.bits (f : QualityFlags) : Word :=
  flagBit f.spread 0 ||| flagBit f.disagree 1 ||| flagBit f.degraded 2 ||| flagBit f.slope 3
    ||| flagBit f.noSlope 4

/-- The empty set of quality flags. -/
def QualityFlags.none : QualityFlags :=
  { spread := false, disagree := false, degraded := false, slope := false, noSlope := false }

/-- The quality mark is shown, and QUALITY is carried, when the set is not empty (R99, R103). -/
def QualityFlags.isEmpty (f : QualityFlags) : Bool :=
  !(f.spread || f.disagree || f.degraded || f.slope || f.noSlope)

/-- The truck flags as bits 0..1 (R219). -/
def TruckFlags.bits (f : TruckFlags) : Word := flagBit f.overload 0 ||| flagBit f.quality 1

/-- The cycle flags as bits 0..4 (R219). -/
def CycleFlags.bits (f : CycleFlags) : Word :=
  flagBit f.weighed 0 ||| flagBit f.long 1 ||| flagBit f.noDrive 2 ||| flagBit f.shake 3
    ||| flagBit f.noReverse 4

/-- The quality flags of a pass, formed at completion from the accumulator and the spread limit (R29). -/
def passFlags (acc : Accumulator) (spreadLimit : Int) : QualityFlags :=
  { spread := decide (spreadLimit < acc.max.getD 0 - acc.min.getD 0),
    disagree := decide (acc.count < acc.disagree * 4),
    degraded := acc.flags.degraded, slope := acc.flags.slope, noSlope := acc.flags.noSlope }

/-- A pitch magnitude above 1,500 (R11, R29); a set without pitch contributes none. -/
def steep (phi : Option Int) : Bool :=
  match phi with
  | some p => decide (1500 < p) || decide (p < -1500)
  | none => false

/-- The lift flags after a contributing set (R17). -/
def LiftFlags.withSet (f : LiftFlags) (x : SampleSet) : LiftFlags :=
  { degraded := f.degraded || x.degraded, slope := f.slope || steep x.phi,
    noSlope := f.noSlope || x.phi.isNone }

/-- A truck's overload limit (R119). -/
def overloadLimit (target overTolerance : Int) : Int := target + roundDiv (target * overTolerance) 1000

/-- The flags of a truck with this target, these passes and this total (R103, R119). -/
def truckFlags (overTolerance target : Int) (passes : List CommittedPass) (total : Int) : TruckFlags :=
  { overload := decide (overloadLimit target overTolerance < total),
    quality := passes.any (fun p => !p.flags.isEmpty) }

end Sys2Proof.Machine
end

