-- ==== Sys2Proof/Machine/Operands.lean ====
section
/-! DEFINITION. The layouts of R219: how the fields of every telegram and of every journal record word are read
and written. -/

namespace Sys2Proof.Machine

/-! ## Fields of words -/

/-- The unsigned field of `len` bits whose lowest bit is `lo`. -/
def field (w : Word) (lo len : Nat) : Nat := (w.extractLsb' lo len).toNat

/-- A value placed with its lowest bit at `lo`. -/
def place (v lo : Nat) : Word := BitVec.ofNat 16 v <<< lo

/-- The word with this number, counted from 0; a word past the end reads 0. -/
def wordAt (ws : List Word) (n : Nat) : Word := ws.getD n 0#16

/-- A 32-bit quantity in two words, most significant first (R219). -/
def long (ws : List Word) (n : Nat) : BitVec 32 := wordAt ws n ++ wordAt ws (n + 1)

/-- A 32-bit quantity as its two words, most significant first (R219). -/
def longWords (v : BitVec 32) : List Word := [v.extractLsb' 16 16, v.extractLsb' 0 16]

/-- An unsigned quantity as two words. -/
def natWords (n : Nat) : List Word := longWords (BitVec.ofNat 32 n)

/-- A signed quantity as two words, in two's complement (R219). -/
def intWords (i : Int) : List Word := longWords (BitVec.ofInt 32 i)

/-- An unsigned quantity as one word. -/
def natWord (n : Nat) : Word := BitVec.ofNat 16 n

/-- A signed quantity as one word, in two's complement (R219). -/
def intWord (i : Int) : Word := BitVec.ofInt 16 i

/-! ## Telegram header and kind table -/

/-- The kind codes (R219). -/
def Kind.code (k : Kind) : Nat :=
  match k with
  | .head => 1 | .rod => 2 | .boom => 3 | .bucket => 4 | .pitch => 5 | .drive => 6 | .time => 8
  | .announce => 9 | .depart => 10 | .heartbeat => 16 | .passResult => 17 | .truckState => 18
  | .cycle => 19 | .settings => 20 | .settingsAnswer => 21 | .journalRead => 22 | .journalRecord => 23

/-- The kind with this code, if the kind table has one (R219). -/
def Kind.ofCode (n : Nat) : Option Kind :=
  match n with
  | 1 => some .head | 2 => some .rod | 3 => some .boom | 4 => some .bucket | 5 => some .pitch
  | 6 => some .drive | 8 => some .time | 9 => some .announce | 10 => some .depart
  | 16 => some .heartbeat | 17 => some .passResult | 18 => some .truckState | 19 => some .cycle
  | 20 => some .settings | 21 => some .settingsAnswer | 22 => some .journalRead
  | 23 => some .journalRecord | _ => none

/-- The place of a kind's receive-error counter. -/
def Kind.idx (k : Kind) : Fin 17 :=
  match k with
  | .head => 0 | .rod => 1 | .boom => 2 | .bucket => 3 | .pitch => 4 | .drive => 5 | .time => 6
  | .announce => 7 | .depart => 8 | .heartbeat => 9 | .passResult => 10 | .truckState => 11
  | .cycle => 12 | .settings => 13 | .settingsAnswer => 14 | .journalRead => 15 | .journalRecord => 16

/-- The length the kind table allows (R206, R219). -/
def Kind.allowsLength (k : Kind) (n : Nat) : Bool :=
  match k with
  | .head | .rod | .boom | .bucket | .pitch => n == 3
  | .drive => n == 2
  | .time => n == 4
  | .announce => n == 4
  | .depart => n == 2
  | .heartbeat => n == 7
  | .passResult => n == 9
  | .truckState => n == 9
  | .cycle => n == 11
  | .settings => n == 4
  | .settingsAnswer => n == 4
  | .journalRead => n == 3
  | .journalRecord => 1 ≤ n && n ≤ 16

/-- The channel a kind feeds (R57). -/
def Kind.channel (k : Kind) : Option Channel :=
  match k with
  | .head => some .head | .rod => some .rod | .boom => some .boom | .bucket => some .bucket
  | .pitch => some .pitch | .drive => some .drive | .time => some .time
  | .announce | .depart => some .truck
  | _ => none

/-- The kind of a telegram the part sends. -/
def TxKind.kind (k : TxKind) : Kind :=
  match k with
  | .heartbeat => .heartbeat | .passResult => .passResult | .truckState => .truckState | .cycle => .cycle
  | .settingsAnswer => .settingsAnswer | .journalRecord => .journalRecord

/-- The class of a telegram the part sends (R216). -/
def TxKind.cls (k : TxKind) : Nat :=
  match k with
  | .passResult | .truckState | .cycle => 1
  | .heartbeat | .settingsAnswer | .journalRecord => 2

/-- The place of a kind's send sequence (R205). -/
def TxKind.idx (k : TxKind) : Fin 6 :=
  match k with
  | .heartbeat => 0 | .passResult => 1 | .truckState => 2 | .cycle => 3 | .settingsAnswer => 4
  | .journalRecord => 5

/-- The sender station of header word 0. -/
def headerSender (w0 : Word) : Nat := field w0 11 5

/-- The kind code of header word 0. -/
def headerKindCode (w0 : Word) : Nat := field w0 5 6

/-- The sequence number of header word 1. -/
def headerSeq (w1 : Word) : Nat := field w1 12 4

/-- The length field of header word 1. -/
def headerLength (w1 : Word) : Nat := field w1 0 5

/-- The words of a telegram the part at `station` sends: header, data, CRC (R203, R219). -/
def TxTelegram.words (t : TxTelegram) (station : Nat) : List Word :=
  let body :=
    [place station 11 ||| place t.kind.kind.code 5 ||| place t.kind.cls 3,
     place t.seq 12 ||| place t.data.length 0] ++ t.data
  body ++ [crc body]

/-! ## Telegrams the part reads -/

/-- A sample status code (R208). -/
def statusOfCode (n : Nat) : Status :=
  match n with
  | 0 => .ok
  | 1 => .over
  | _ => .fault

/-- HEAD, ROD, BOOM, BUCKET, PITCH: status and signed value (R219). -/
def sampleFields (d : List Word) : Status × Int := (statusOfCode (wordAt d 0).toNat, (long d 1).toInt)

/-- DRIVE: status and direction code (R219). -/
def driveFields (d : List Word) : Status × Int :=
  (statusOfCode (wordAt d 0).toNat, ((wordAt d 1).toNat : Int))

/-- TIME: the date and time carried (R219). -/
def timeFields (d : List Word) : Calendar :=
  { year := (wordAt d 0).toNat, month := field (wordAt d 1) 8 8, day := field (wordAt d 1) 0 8,
    hour := field (wordAt d 2) 8 8, minute := field (wordAt d 2) 0 8, second := (wordAt d 3).toNat }

/-- ANNOUNCE: identity and target (R219). The target is read unsigned (log entry 26). -/
def announceFields (d : List Word) : BitVec 32 × Int := (long d 0, ((long d 2).toNat : Int))

/-- DEPART: identity (R219). -/
def departFields (d : List Word) : BitVec 32 := long d 0

/-- What a SETTINGS telegram asks (R208): an action code that is neither WRITE nor SAVE is handed over as
a WRITE to index 0. -/
inductive SettingsAction where
  | write (index : Nat) (value : Int)
  | save
deriving DecidableEq, Repr

/-- SETTINGS: target station and action (R208, R219). -/
def settingsFields (d : List Word) : Nat × SettingsAction :=
  (field (wordAt d 0) 11 5,
   match field (wordAt d 0) 0 2 with
   | 0 => .write (wordAt d 1).toNat (long d 2).toInt
   | 1 => .save
   | _ => .write 0 (long d 2).toInt)

/-- JOURNAL_READ: target station and sequence number (R219). -/
def journalReadFields (d : List Word) : Nat × Nat := (field (wordAt d 0) 11 5, (long d 1).toNat)

/-! ## Telegrams the part sends -/

/-- Codes of the close reasons (R219). -/
def CloseReason.code (r : CloseReason) : Nat :=
  match r with
  | .departed => 1 | .next => 2 | .passLimit => 3 | .shiftChange => 4 | .keyOff => 5

/-- Codes of the advice (R219). -/
def Advice.code (a : Advice) : Nat :=
  match a with
  | .none => 0 | .lastPass => 1 | .full => 2

/-- Codes of the position (R219). -/
def TruckPosition.code (p : TruckPosition) : Nat :=
  match p with
  | .head => 0 | .waiting => 1 | .closed _ => 2

/-- The close reason code of a TRUCK_STATE: 0 when the truck is not closed (R219). -/
def TruckPosition.reasonCode (p : TruckPosition) : Nat :=
  match p with
  | .closed r => r.code
  | _ => 0

/-- The material's number (R82). -/
def Material.number (m : Material) : Nat :=
  match m with
  | .m1 => 1 | .m2 => 2 | .m3 => 3 | .m4 => 4

/-- The two words of an identity; an absent one is sent as 0 (R219). -/
def identityWords (i : Option (BitVec 32)) : List Word := longWords (i.getD 0#32)

/-- PASS_RESULT (R86, R219). -/
def passResultData (shift : Nat) (identity : Option (BitVec 32)) (number : Nat) (p : PassRecord) : List Word :=
  [natWord shift,
   flagBit identity.isSome 15 ||| place number 8 ||| place p.material.number 5 ||| p.flags.bits]
    ++ identityWords identity
    ++ [natWord p.weight.toNat, natWord p.fill.toNat, natWord p.samples] ++ natWords p.stamp

/-- TRUCK_STATE (R121, R219). -/
def truckStateData (shift : Nat) (e : TruckEntry) (position : TruckPosition) (advice : Advice)
    (entries : Nat) : List Word :=
  [natWord shift,
   flagBit e.identity.isSome 15 ||| place position.code 12 ||| place position.reasonCode 8
     ||| place advice.code 4 ||| e.flags.bits]
    ++ identityWords e.identity ++ natWords e.target.toNat ++ natWords e.total.toNat
    ++ [place e.passes.length 8 ||| place entries 0]

/-- CYCLE (R143, R219). -/
def cycleData (shift : Nat) (c : CycleRecord) : List Word :=
  [natWord shift, natWord c.number, natWord c.dig, natWord c.loaded, natWord c.dump, natWord c.ret]
    ++ natWords c.total ++ [place c.shakes 8 ||| c.flags.bits] ++ natWords (c.stamp.getD 0)

/-- The answers of a SETTINGS request (R39, R40, R42). -/
inductive SettingsAnswer where
  | accepted | clamped | refused | saved | saveFailed
deriving DecidableEq, Repr

/-- Codes of the answers (R219). -/
def SettingsAnswer.code (a : SettingsAnswer) : Nat :=
  match a with
  | .accepted => 0 | .clamped => 1 | .refused => 2 | .saved => 3 | .saveFailed => 4

/-- SETTINGS_ANSWER (R219): whether the action is SAVE, the answer, the index and the value. -/
def settingsAnswerData (save : Bool) (answer : SettingsAnswer) (index : Nat) (value : Int) : List Word :=
  [flagBit save 8 ||| place answer.code 0, natWord index] ++ intWords value

/-- One part of a JOURNAL_RECORD answer (R201, R219). -/
def journalRecordData (part parts : Nat) (words : List Word) : List Word :=
  (place part 4 ||| place parts 0) :: words

/-- The END answer (R201, R219); its part fields are 0 (DESIGN CHOICE, log entry 48). -/
def journalEndData : List Word := [flagBit true 15]

/-- Codes of the channel states in a HEARTBEAT (R219). -/
def ChannelState.code (c : ChannelState) : Nat :=
  match c with
  | .notLearned => 0 | .primary => 1 | .secondary => 2 | .unavailable => 3

/-- Codes of the journal state in a HEARTBEAT (R219). -/
def JournalState.code (j : JournalState) : Nat :=
  match j with
  | .ok => 0 | .degraded => 1 | .fault => 2

/-- Codes of the mode in a HEARTBEAT, which is sent in three modes only (R217, R219). -/
def Mode.code (m : Mode) : Nat :=
  match m with
  | .run => 2
  | .service => 3
  | .closing => 4
  | .start | .join | .standby => 0

/-! ## Journal records -/

/-- Kind codes of record headers (R219). -/
def RecordKind.code (k : RecordKind) : Nat :=
  match k with
  | .machine => 1 | .truckClosed => 2 | .shiftSnapshot => 3 | .shiftClosed => 4

/-- The record kind with this code (R219). -/
def RecordKind.ofCode (n : Nat) : Option RecordKind :=
  match n with
  | 1 => some .machine
  | 2 => some .truckClosed
  | 3 => some .shiftSnapshot
  | 4 => some .shiftClosed
  | _ => none

/-- The record lengths allowed for a kind (R187). -/
def RecordKind.allowsLength (k : RecordKind) (n : Nat) : Bool :=
  match k with
  | .machine => n == 89
  | .truckClosed => 17 ≤ n && n ≤ 31
  | .shiftSnapshot | .shiftClosed => n == 22

/-- The words of a record: header, sequence number, body, check word (R187). -/
def recordWords (kind : RecordKind) (seq : Nat) (body : List Word) : List Word :=
  let front := [place kind.code 12 ||| place (body.length + 4) 0] ++ natWords seq ++ body
  front ++ [checkWord front]

/-- A possible header at this word of its sector: its kind and length (R187). -/
def possibleHeader (w : Word) (pos : Nat) : Option (RecordKind × Nat) :=
  match RecordKind.ofCode (field w 12 4) with
  | none => none
  | some k =>
    let n := field w 0 12
    if k.allowsLength n && pos + n ≤ 1024 then some (k, n) else none

/-- The sixteen signed forces of a curve as 32 words (R219). -/
def curveWords (v : Vector Int 16) : List Word := v.toList.flatMap intWords

/-- The body of a MACHINE record (R187, R219). -/
def MachineRecord.body (r : MachineRecord) : List Word :=
  [natWord r.headArea.toNat, natWord r.rodArea.toNat, intWord r.thetaLo, intWord r.thetaHi,
   intWord r.betaMin, intWord r.betaDump, natWord r.volume.toNat, natWord r.rho1.toNat,
   natWord r.rho2.toNat, natWord r.rho3.toNat, natWord r.rho4.toNat]
    ++ natWords r.defaultTarget.toNat
    ++ [natWord r.overTolerance.toNat, natWord r.emptyThreshold.toNat, natWord r.spreadLimit.toNat,
        intWord r.point1, intWord r.point2, intWord r.point3]
    ++ match r.curves with
       | some c => [1#16] ++ curveWords c.empty ++ curveWords c.loaded ++ [natWord c.refLoad.toNat]
       | none => List.replicate 66 0#16

/-- The sixteen forces that begin at body word `n`. -/
def readCurve (b : List Word) (n : Nat) : Vector Int 16 :=
  let f := fun (k : Nat) => (long b (n + 2 * k)).toInt
  #v[f 0, f 1, f 2, f 3, f 4, f 5, f 6, f 7, f 8, f 9, f 10, f 11, f 12, f 13, f 14, f 15]

/-- Whether the curves-present word says present: 1 present, 0 absent, any other value left open by R219
(log entry 11). -/
def curvesPresent (w : Word) : Bool :=
  if w = 1#16 then true else if w = 0#16 then false else Config.curvesMark w

/-- The machine record a MACHINE record's body carries (R219). -/
def MachineRecord.ofBody (b : List Word) : MachineRecord :=
  let u := fun (n : Nat) => ((wordAt b n).toNat : Int)
  let i := fun (n : Nat) => (wordAt b n).toInt
  { headArea := u 0, rodArea := u 1, thetaLo := i 2, thetaHi := i 3, betaMin := i 4, betaDump := i 5,
    volume := u 6, rho1 := u 7, rho2 := u 8, rho3 := u 9, rho4 := u 10,
    defaultTarget := ((long b 11).toNat : Int), overTolerance := u 13, emptyThreshold := u 14,
    spreadLimit := u 15, point1 := i 16, point2 := i 17, point3 := i 18,
    curves :=
      if curvesPresent (wordAt b 19) then
        some { empty := readCurve b 20, loaded := readCurve b 52, refLoad := u 84 }
      else none }

/-- The body of a TRUCK_CLOSED record (R114, R219). -/
def truckClosedBody (shift : Nat) (e : TruckEntry) (reason : CloseReason) (stamp : Nat) : List Word :=
  [natWord shift, flagBit e.identity.isSome 15 ||| e.flags.bits, natWord reason.code]
    ++ identityWords e.identity ++ natWords e.target.toNat ++ natWords e.total.toNat
    ++ [natWord e.passes.length] ++ natWords stamp ++ e.passes.map (fun p => natWord p.weight.toNat)

/-- The body of a SHIFT_SNAPSHOT or SHIFT_CLOSED record (R160, R162, R219). -/
def ShiftFigures.body (f : ShiftFigures) (stamp : Nat) : List Word :=
  [natWord f.shift] ++ natWords f.openTime
    ++ [flagBit f.openTimeSet 0, natWord f.cycles, natWord f.passes, natWord f.trucks]
    ++ natWords f.payload
    ++ [natWord f.unweighed, natWord f.empties, natWord f.aborted, natWord f.carriedBack, natWord f.redigs]
    ++ natWords f.cycleTimeSum ++ natWords stamp

/-- The figures a shift record's body carries (R219). -/
def ShiftFigures.ofBody (b : List Word) : ShiftFigures :=
  let u := fun (n : Nat) => (wordAt b n).toNat
  { shift := u 0, openTime := (long b 1).toNat, openTimeSet := (wordAt b 3).getLsbD 0, cycles := u 4,
    passes := u 5, trucks := u 6, payload := (long b 7).toNat, unweighed := u 9, empties := u 10,
    aborted := u 11, carriedBack := u 12, redigs := u 13, cycleTimeSum := (long b 14).toNat }

/-- What a TRUCK_CLOSED body gives the restore: shift number, pass count, total (R114, R200). -/
def truckClosedFigures (b : List Word) : Nat × Nat × Nat :=
  ((wordAt b 0).toNat, (wordAt b 9).toNat, (long b 7).toNat)

end Sys2Proof.Machine
end

