-- ==== Sys2Proof/Machine/StartValues.lean ====
section
/-! DEFINITION. The values each block takes at every start, as the chapter that owns the block states them. -/

namespace Sys2Proof.Machine

/-- The cleared accumulator (R3). -/
def Accumulator.cleared : Accumulator :=
  { sum := 0, count := 0, min := none, max := none,
    flags := { degraded := false, slope := false, noSlope := false }, disagree := 0,
    thMax := none, stallRef := none, inputTimer := none, stallTimer := none }

/-- The Weigher at every start (R3). -/
def Weigher.start : Weigher :=
  { state := .off, acc := .cleared, z := 0, zeroArmed := false, lastBoom := none, unracked := 0 }

/-- The default machine record (R34). -/
def MachineRecord.default : MachineRecord :=
  { headArea := 40000, rodArea := 20000, thetaLo := 0, thetaHi := 3000, betaMin := 2500,
    betaDump := -1500, volume := 5000, rho1 := 1600, rho2 := 1800, rho3 := 2000, rho4 := 2400,
    defaultTarget := 60000, overTolerance := 50, emptyThreshold := 300, spreadLimit := 1000,
    point1 := -1, point2 := -1, point3 := -1, curves := none }

/-- Sixteen empty bins (R46). -/
def emptyBins : Vector Bin 16 := Vector.replicate 16 { sum := 0, count := 0 }

/-- The reference entry value a record gives at a start (R36). -/
def MachineRecord.startRefEntry (r : MachineRecord) : Int :=
  match r.curves with
  | some c => c.refLoad
  | none => 5000

/-- The Calibration Unit at a start whose restore gives this active record, with this many record
rejections (R36). The phase, the greatest angle and the input timer, which only an armed capture has (R46), and
`candRef` are the model's choice (DESIGN CHOICE, log entry 37). -/
def Calibration.start (active : MachineRecord) (rejections : Nat) : Calibration :=
  { active := active, working := none, capture := .idle, phase := .awaitBelow, bins := emptyBins,
    thMax := none, inputTimer := none, candEmpty := none, candLoaded := none, candRef := 5000,
    refEntry := active.startRefEntry, save := none, recordRejections := rejections,
    refusedSettings := 0 }

/-- An EMPTY slot (R58). -/
def Slot.cleared : Slot :=
  { station := none, state := .empty, lastValue := none, lastStatus := none, lastSeq := none,
    resync := false, linkAge := none, valueAge := none, lost := 0, duplicate := 0, disagree := 0 }

/-- The Producer Table at every start (R58). -/
def ProducerTable.start : ProducerTable :=
  { channels := Vector.replicate 8 { slot1 := .cleared, slot2 := .cleared, extra := 0 },
    skipped := 0, rejected := 0 }

/-- The Pass Unit at every start (R79). -/
def PassUnit.start : PassUnit := { pending := none, material := .m1, lastShown := none }

/-- The Truck List at every start (R101). -/
def TruckList.start : TruckList := { entries := [], refused := 0, unknown := 0 }

/-- No cycle flag. -/
def CycleFlags.none : CycleFlags :=
  { weighed := false, long := false, noDrive := false, shake := false, noReverse := false }

/-- A new cycle record with this number (R125, R140). -/
def CycleRecord.fresh (number : Nat) : CycleRecord :=
  { number := number, dig := 0, loaded := 0, dump := 0, ret := 0, total := 0, shakes := 0,
    flags := .none, stamp := Option.none }

/-- The Cycle Tracker at every start (R125). -/
def CycleTracker.start : CycleTracker :=
  { phase := .dig, hold := true, timer := 0, timerSub := 0, current := .fresh 1, last := none,
    lastShift := none, lastBoom := none, lastBucket := none, latch := .none, lowSeen := false }

/-- The calendar after power-on and after the reset line (R146, R226). -/
def Calendar.afterReset : Calendar :=
  { year := 2000, month := 1, day := 1, hour := 0, minute := 0, second := 0 }

/-- The Shift Clock after power-on and after the reset line (R146). -/
def ShiftClock.afterReset : ShiftClock :=
  { calendar := .afterReset, secondPhase := 0, timeSet := false, lockout := none, refusedTimes := 0 }

/-- An open shift whose every figure is 0 (R160, R163). -/
def ShiftFigures.opened (shift openTime : Nat) (openTimeSet : Bool) : ShiftFigures :=
  { shift := shift, openTime := openTime, openTimeSet := openTimeSet, cycles := 0, passes := 0,
    trucks := 0, payload := 0, unweighed := 0, empties := 0, aborted := 0, carriedBack := 0,
    redigs := 0, cycleTimeSum := 0 }

/-- A key RELEASED with no last scan and a run count of 0 (R166). -/
def KeyState.start : KeyState := { pressed := false, lastScan := none, run := 0 }

/-- The Display Controller at every start (R166); the drivers keep what they show. -/
def Display.start (glass : Option (List Byte)) : Display :=
  { page := .load, statusItem := 1, message := none, messageTimer := none, stale := true,
    sinceFrame := none, port := .free, keys := Vector.replicate 8 .start, deleteHold := none,
    image := [], glass := glass, keyMark := none, readWaiting := false, blankDue := false }

/-- The journal as R199 sets it up over a fully erased array. -/
def Journal.overErasedArray : Journal :=
  { store := [], sectors := #v[.active, .erased, .erased, .erased], fill := 0, lastActive := 0,
    readable := [], nextSeq := 1, appendQueue := [], readQueue := [], serving := none, carry := [],
    job := none, op := .idle, target := none, eraseSector := none, eraseTime := 0, mark := false,
    deferred := false, jstate := .ok, lostAppends := 0, lostReads := 0, programFailures := 0,
    eraseFailures := 0, torn := 0, bad := 0, closed := 0, drainAsked := false }

/-- The Line Interface at every start (R205). -/
def LineInterface.start : LineInterface :=
  { listening := false, inbox := [], queue := [], access := .silent, slotCount := 0, collisions := 0,
    clash := false, sendSeq := Vector.replicate 6 0, heartbeat := none,
    receiveErrors := Vector.replicate 17 0, unknownKinds := 0, overrun := 0, dropped := 0,
    attempts := 0 }

/-- No event on its way (log entry 7). -/
def Mail.start : Mail := { dumps := [], boomBelow := 0, commits := [], resolutions := 0 }

/-- The station number the straps give (R221). -/
def stationOf (straps : Straps) : Nat := straps.station.toNat

/-- The line rate the rate straps give (R203). -/
def rateOf (straps : Straps) : LineRate :=
  match straps.rate0, straps.rate1 with
  | false, false => .kbit125
  | true, false => .kbit250
  | false, true => .kbit500
  | true, true => .kbit1000

/-- Station numbers 0 and 31 set LISTEN_ONLY (R221). -/
def isListenOnly (straps : Straps) : Bool := stationOf straps == 0 || stationOf straps == 31

end Sys2Proof.Machine
end

