-- ==== Sys2Proof/Machine/ProducerTable.lean ====
section
/-! DEFINITION. The Producer Table by itself (R57 to R69, R73, R74): its slots, how a telegram is judged, how a
source is chosen. -/

namespace Sys2Proof.Machine

/-- The place of a channel in the table. -/
def chanIdx (ch : Channel) : Fin 8 :=
  match ch with
  | .head => 0 | .rod => 1 | .boom => 2 | .bucket => 3 | .pitch => 4 | .drive => 5 | .time => 6
  | .truck => 7

/-- The slots of a channel. -/
def ProducerTable.chan (p : ProducerTable) (ch : Channel) : ChannelSlots := p.channels[chanIdx ch]

/-- Replace the slots of a channel. -/
def ProducerTable.setChan (p : ProducerTable) (ch : Channel) (c : ChannelSlots) : ProducerTable :=
  { p with channels := p.channels.set (chanIdx ch) c }

/-- One slot of a channel. -/
def ChannelSlots.get (c : ChannelSlots) (id : SlotId) : Slot :=
  match id with
  | .primary => c.slot1
  | .secondary => c.slot2

/-- Replace one slot of a channel. -/
def ChannelSlots.put (c : ChannelSlots) (id : SlotId) (x : Slot) : ChannelSlots :=
  match id with
  | .primary => { c with slot1 := x }
  | .secondary => { c with slot2 := x }

/-- One slot of the table. -/
def ProducerTable.slot (p : ProducerTable) (ch : Channel) (id : SlotId) : Slot := (p.chan ch).get id

/-- Replace one slot of the table. -/
def ProducerTable.setSlot (p : ProducerTable) (ch : Channel) (id : SlotId) (x : Slot) : ProducerTable :=
  p.setChan ch ((p.chan ch).put id x)

/-- The six sample channels (R57). -/
def isSampleChannel (ch : Channel) : Bool :=
  match ch with
  | .time | .truck => false
  | _ => true

/-- The fresh time of a channel in ms; TIME and TRUCK have no freshness (R57, R65). -/
def freshTime (ch : Channel) : Nat :=
  match ch with
  | .head | .rod | .boom | .bucket | .pitch => 50
  | .drive => 500
  | .time | .truck => 0

/-- A slot's value is fresh (R65). -/
def Slot.isFresh (x : Slot) (ch : Channel) : Bool :=
  match x.lastValue, x.valueAge with
  | some _, some a => a < freshTime ch
  | _, _ => false

/-- A slot is selectable (R66). -/
def Slot.selectable (x : Slot) (ch : Channel) : Bool :=
  x.state == .active && x.isFresh ch && (x.lastStatus == some .ok || x.lastStatus == some .over)

/-- The source of a channel (R66). -/
def ProducerTable.source (p : ProducerTable) (ch : Channel) : Option SlotId :=
  if (p.slot ch .primary).selectable ch then some .primary
  else if (p.slot ch .secondary).selectable ch then some .secondary
  else none

/-- Whether a channel has an available source (R77). -/
def ProducerTable.available (p : ProducerTable) (ch : Channel) : Bool := (p.source ch).isSome

/-- The value of the chosen source. -/
def ProducerTable.sourceValue (p : ProducerTable) (ch : Channel) : Option Int :=
  (p.source ch).bind (fun id => (p.slot ch id).lastValue)

/-- The channel state (R69). -/
def ProducerTable.channelState (p : ProducerTable) (ch : Channel) : ChannelState :=
  let s1 := p.slot ch .primary
  let s2 := p.slot ch .secondary
  if s1.state = .empty then .notLearned
  else if isSampleChannel ch then
    match p.source ch with
    | some .primary => .primary
    | some .secondary => .secondary
    | none => .unavailable
  else if s1.state = .active then .primary
  else if s2.state = .active then .secondary
  else .unavailable

/-- The eight channels in the table's order (R57, R183, R219). -/
def allChannels : List Channel := [.head, .rod, .boom, .bucket, .pitch, .drive, .time, .truck]

/-- The eight channel states in the table's order. -/
def ProducerTable.channelStates (p : ProducerTable) : List ChannelState := allChannels.map p.channelState

/-- The sixteen slots. -/
def ProducerTable.slots (p : ProducerTable) : List Slot :=
  allChannels.flatMap (fun ch => [p.slot ch .primary, p.slot ch .secondary])

/-- The degraded indication (R69). -/
def ProducerTable.degraded (p : ProducerTable) : Bool :=
  p.slots.any (fun x => x.state == .silent || x.state == .faulty)

/-! ## Telegrams -/

/-- A good telegram from the slot's station restarts its link age and ends its silence (R60, R61). -/
def Slot.hear (x : Slot) (sender : Nat) : Slot :=
  if x.station = some sender then
    { x with
      linkAge := some 0,
      state := if x.state = .silent then (if x.lastStatus = some .fault then .faulty else .active)
               else x.state }
  else x

/-- Both slots of a channel hear a telegram. -/
def ChannelSlots.hear (c : ChannelSlots) (sender : Nat) : ChannelSlots :=
  { c with slot1 := c.slot1.hear sender, slot2 := c.slot2.hear sender }

/-- Every slot of every channel hears a telegram (R60). -/
def ProducerTable.hear (p : ProducerTable) (sender : Nat) : ProducerTable :=
  { p with channels := Vector.ofFn (fun i => (p.channels[i]).hear sender) }

/-- An EMPTY slot takes a station (R59); TIME and TRUCK slots keep no value age (R58). -/
def Slot.filled (ch : Channel) (sender : Nat) : Slot :=
  { Slot.cleared with
    station := some sender, state := .active, linkAge := some 0,
    valueAge := if isSampleChannel ch then some 0 else none }

/-- Which slot a telegram of the channel belongs to, filling an EMPTY one; an extra is counted and belongs
to none (R59). -/
def ProducerTable.assign (p : ProducerTable) (ch : Channel) (sender : Nat) : ProducerTable × Option SlotId :=
  let c := p.chan ch
  if c.slot1.station = some sender then (p, some .primary)
  else if c.slot2.station = some sender then (p, some .secondary)
  else if c.slot1.state = .empty then (p.setChan ch { c with slot1 := .filled ch sender }, some .primary)
  else if c.slot2.state = .empty then (p.setChan ch { c with slot2 := .filled ch sender }, some .secondary)
  else (p.setChan ch { c with extra := inc c.extra }, none)

/-- The sequence check (R62): the slot after it, and whether the telegram is accepted. -/
def Slot.judgeSeq (x : Slot) (seq : Nat) : Slot × Bool :=
  match x.lastSeq with
  | none => ({ x with lastSeq := some seq, resync := false }, true)
  | some last =>
    if x.resync then ({ x with lastSeq := some seq, resync := false }, true)
    else if seq = last then ({ x with duplicate := inc x.duplicate }, false)
    else
      ({ x with lastSeq := some seq, lost := satAdd limit16 x.lost ((seq + 31 - last) % 16) }, true)

/-- The value and status stored for an accepted sample or DRIVE telegram (R63). -/
def storedValue (ch : Channel) (status : Status) (v : Int) : Int × Status :=
  match ch with
  | .head | .rod =>
    (clamp 0 40000 v,
     if status = .fault then .fault else if status = .over ∨ 40000 < v then .over else .ok)
  | .boom => (clamp (-4500) 6000 v, status)
  | .bucket => (clamp (-9000) 9000 v, status)
  | .pitch => (clamp (-2000) 2000 v, status)
  | .drive => (v, if v = 0 ∨ v = 1 ∨ v = 2 then status else .fault)
  | .time | .truck => (v, status)

/-- Store an accepted value, restart its age, and move the slot's state (R63, R64). -/
def Slot.store (x : Slot) (ch : Channel) (status : Status) (v : Int) : Slot :=
  let (v', st) := storedValue ch status v
  { x with
    lastValue := some v', lastStatus := some st, valueAge := some 0,
    state := if st = .fault then .faulty else .active }

/-- The status and value a sample or DRIVE telegram carries (R219). -/
def carriedValue (ch : Channel) (d : List Word) : Status × Int :=
  if ch = .drive then driveFields d else sampleFields d

/-- A telegram of the channel from the sender, taken whole up to the stored value (R59, R62 to R64): the
table after it, and the slot by which it was accepted. -/
def ProducerTable.take (p : ProducerTable) (ch : Channel) (sender seq : Nat) (d : List Word) :
    ProducerTable × Option SlotId :=
  match p.assign ch sender with
  | (p1, none) => (p1, none)
  | (p1, some id) =>
    let (x, accepted) := (p1.slot ch id).judgeSeq seq
    if accepted then
      let (st, v) := carriedValue ch d
      let y := if isSampleChannel ch then x.store ch st v else x
      (p1.setSlot ch id y, some id)
    else (p1.setSlot ch id x, none)

/-- The link age of a slot reaches 1,000 ms (R60). -/
def Slot.fallSilent (x : Slot) : Slot :=
  { x with state := .silent, lost := inc x.lost, resync := true, linkAge := some 1000 }

/-! ## Sample sets -/

/-- The tolerance within which two producers of a channel agree (R57); BUCKET and DRIVE are not compared. -/
def tolerance (ch : Channel) : Int :=
  match ch with
  | .head | .rod => 500
  | _ => 100

/-- A slot whose value can be compared with its partner's (R74). -/
def Slot.comparable (x : Slot) (ch : Channel) : Bool :=
  x.state == .active && x.isFresh ch && x.lastStatus == some .ok

/-- The channel disagrees (R74). -/
def ProducerTable.disagrees (p : ProducerTable) (ch : Channel) : Bool :=
  let x := p.slot ch .primary
  let y := p.slot ch .secondary
  x.comparable ch && y.comparable ch
    && decide (tolerance ch < ((x.lastValue.getD 0 - y.lastValue.getD 0).natAbs : Int))

/-- Count a disagreement in both slots of the channel (R74). -/
def ChannelSlots.countDisagree (c : ChannelSlots) : ChannelSlots :=
  { c with
    slot1 := { c.slot1 with disagree := inc c.slot1.disagree },
    slot2 := { c.slot2 with disagree := inc c.slot2.disagree } }

/-- The channels compared when a set is formed (R74). -/
def comparedChannels : List Channel := [.head, .rod, .boom, .pitch]

/-- Count the disagreements of the compared channels (R74). -/
def ProducerTable.countDisagreements (p : ProducerTable) : ProducerTable :=
  comparedChannels.foldl
    (fun q ch => if p.disagrees ch then q.setChan ch (q.chan ch).countDisagree else q) p

/-- The channels among ROD, BOOM and BUCKET that have no available source (R71). -/
def ProducerTable.missing (p : ProducerTable) : List Channel :=
  [Channel.rod, .boom, .bucket].filter (fun ch => !p.available ch)

/-- The status of the chosen source of a channel is OVER (R72). -/
def ProducerTable.sourceOver (p : ProducerTable) (ch : Channel) : Bool :=
  match p.source ch with
  | some id => (p.slot ch id).lastStatus == some .over
  | none => false

/-- The channel is served by its secondary (R66). -/
def ProducerTable.bySecondary (p : ProducerTable) (ch : Channel) : Bool := p.source ch == some .secondary

/-- The fields and flags of a set, from the chosen sources (R73). -/
def ProducerTable.sampleSet (p : ProducerTable) : SampleSet :=
  { ph := (p.sourceValue .head).getD 0, pr := (p.sourceValue .rod).getD 0,
    theta := (p.sourceValue .boom).getD 0, beta := (p.sourceValue .bucket).getD 0,
    phi := p.sourceValue .pitch,
    degraded := [Channel.head, .rod, .boom, .bucket, .pitch].any p.bySecondary,
    disagree := comparedChannels.any p.disagrees }

end Sys2Proof.Machine
end

