-- ==== Sys2Proof/Machine/Calendar.lean ====
section
/-! DEFINITION. The calendar arithmetic of R147 to R153. -/

namespace Sys2Proof.Machine

/-- A year divisible by 4 is a leap year (R147). -/
def isLeap (year : Nat) : Bool := year % 4 == 0

/-- The length of a month (R147); 0 for a number that is no month. -/
def monthLength (year month : Nat) : Nat :=
  match month with
  | 1 | 3 | 5 | 7 | 8 | 10 | 12 => 31
  | 4 | 6 | 9 | 11 => 30
  | 2 => if isLeap year then 29 else 28
  | _ => 0

/-- Days of the year before the month that follows `n` months. -/
def daysInMonths (year : Nat) : Nat → Nat
  | 0 => 0
  | n + 1 => daysInMonths year n + monthLength year (n + 1)

/-- Days from 2000-01-01 to January 1 of the year: one leap day for each leap year begun before it. -/
def daysBeforeYear (year : Nat) : Nat := (year - 2000) * 365 + (year - 2000 + 3) / 4

/-- Seconds from 2000-01-01 00:00:00 (R219). -/
def Calendar.toSeconds (c : Calendar) : Nat :=
  (daysBeforeYear c.year + daysInMonths c.year (c.month - 1) + (c.day - 1)) * 86400
    + c.hour * 3600 + c.minute * 60 + c.second

/-- The number of seconds of the calendar's hundred years (R146). -/
def calendarSpan : Nat := 3155760000

/-- The validity test on a TIME telegram (R148). -/
def Calendar.isValid (c : Calendar) : Bool :=
  2000 ≤ c.year && c.year ≤ 2099 && 1 ≤ c.month && c.month ≤ 12 && 1 ≤ c.day
    && c.day ≤ monthLength c.year c.month && c.hour ≤ 23 && c.minute ≤ 59 && c.second ≤ 59

/-- The day after (R147); December 31, 2099 is followed by January 1, 2000. -/
def Calendar.nextDay (c : Calendar) : Calendar :=
  if c.day < monthLength c.year c.month then { c with day := c.day + 1 }
  else if c.month < 12 then { c with month := c.month + 1, day := 1 }
  else if c.year < 2099 then { c with year := c.year + 1, month := 1, day := 1 }
  else { c with year := 2000, month := 1, day := 1 }

/-- One second later (R147). -/
def Calendar.nextSecond (c : Calendar) : Calendar :=
  if c.second < 59 then { c with second := c.second + 1 }
  else if c.minute < 59 then { c with second := 0, minute := c.minute + 1 }
  else if c.hour < 23 then { c with second := 0, minute := 0, hour := c.hour + 1 }
  else { c with second := 0, minute := 0, hour := 0 }.nextDay

/-- 2099-12-31 23:59:59, past which time-set is cleared (R147). -/
def Calendar.isLast (c : Calendar) : Bool :=
  c.year == 2099 && c.month == 12 && c.day == 31 && c.hour == 23 && c.minute == 59 && c.second == 59

/-- The minute of the day (R150). -/
def Calendar.minuteOfDay (c : Calendar) : Nat := c.hour * 60 + c.minute

/-- The number of days whose occurrence of the point lies at or before the moment `t`, counted from an
arbitrary day; it grows by one at each occurrence (R150). -/
def occurrencesUpTo (point t : Int) : Int := (t - point * 60) / 86400

/-- An occurrence of the point lies after `old` and at or before `new` (R153). -/
def occursBetween (point old new : Int) : Bool := occurrencesUpTo point old < occurrencesUpTo point new

/-- The latest occurrence of the point at or before the moment `t` (R155). -/
def latestOccurrence (point t : Int) : Int := occurrencesUpTo point t * 86400 + point * 60

/-- The enabled shift-change points of a record (R150). -/
def MachineRecord.points (r : MachineRecord) : List Int :=
  [r.point1, r.point2, r.point3].filter (fun p => 0 ≤ p)

end Sys2Proof.Machine
end

