-- ==== Sys2Proof/Machine/Store.lean ====
section
/-! DEFINITION. The store array (R186): 4 x 1,024 words, held as a list of the words that are not erased. -/

namespace Sys2Proof.Machine

/-- What an erased word reads (R186), and so what an unlisted address reads. -/
def erasedWord : Word := 0xFFFF#16

/-- Words in a sector (R186). -/
def sectorWords : Nat := 1024

/-- Words in the array (R186). -/
def storeWords : Nat := 4 * sectorWords

/-- The address of a word of a sector. -/
def storeAddr (sector word : Nat) : Nat := sectorWords * sector + word

/-- The canonical form of the array: addresses rising and in the array, no entry that reads erased. -/
abbrev Store.wf (m : List StoreCell) : Prop :=
  m.Pairwise (fun c d => c.1 < d.1) ∧ ∀ c ∈ m, c.2 ≠ erasedWord ∧ c.1 < storeWords

/-- Read one word. -/
def Store.read : List StoreCell → Nat → Word
  | [], _ => erasedWord
  | (b, w) :: rest, a => if a = b then w else Store.read rest a

/-- Put a word into the list in its place, keeping the canonical form. -/
def Store.put : List StoreCell → Nat → Word → List StoreCell
  | [], a, w => if w = erasedWord then [] else [(a, w)]
  | (b, v) :: rest, a, w =>
    if a < b then (if w = erasedWord then (b, v) :: rest else (a, w) :: (b, v) :: rest)
    else if a = b then (if w = erasedWord then rest else (a, w) :: rest)
    else (b, v) :: Store.put rest a w

/-- Leave a word holding `w`; the array has no word beyond its last (R186). -/
def Store.write (m : List StoreCell) (a : Nat) (w : Word) : List StoreCell :=
  if a < storeWords then Store.put m a w else m

/-- The words of a run of addresses. -/
def Store.slice (m : List StoreCell) (a : Nat) : Nat → List Word
  | 0 => []
  | n + 1 => Store.read m a :: Store.slice m (a + 1) n

/-- Word programs over consecutive words: each turns bits from 1 to 0 and is verified; the first that does
not read its value ends the run as failed (R186). -/
def Store.program (m : List StoreCell) (a : Nat) : List Word → List StoreCell × Bool
  | [] => (m, true)
  | w :: ws =>
    let v := Store.read m a &&& w
    if v = w then Store.program (Store.write m a v) (a + 1) ws else (Store.write m a v, false)

/-- The first `k` word programs of a run, and then one more that has left the bits of `left` unturned. -/
def Store.programPart (m : List StoreCell) (a : Nat) : List Word → Nat → Word → List StoreCell
  | [], _, _ => m
  | w :: _, 0, left => Store.write m a (Store.read m a &&& (w ||| left))
  | w :: ws, k + 1, left =>
    Store.programPart (Store.write m a (Store.read m a &&& w)) (a + 1) ws k left

/-- How many words of a run can be programmed to their values before the first that cannot: one that holds a 0
where its value has a 1, whose program always fails (R186). -/
def Store.runLength (m : List StoreCell) (a : Nat) : List Word → Nat
  | [] => 0
  | w :: ws => if Store.read m a &&& w = w then Store.runLength m (a + 1) ws + 1 else 0

/-- The words of a run whose program can be the one that fails (R186). A word that reads its value already is
done at once; one that holds a 0 where its value has a 1 always fails, and no later word is programmed. -/
def Store.failable (m : List StoreCell) (a : Nat) : List Word → List Nat
  | [] => []
  | w :: ws =>
    let old := Store.read m a
    let later := if old &&& w = w then (Store.failable m (a + 1) ws).map (fun k => k + 1) else []
    if old = w then later else 0 :: later

/-- A sector erase sets every word of the sector to 0xFFFF (R186). -/
def Store.eraseSector (m : List StoreCell) (sector : Nat) : List StoreCell :=
  m.filter (fun c => c.1 / sectorWords != sector)

/-- The listed words of a sector. -/
def Store.cellsOf (m : List StoreCell) (sector : Nat) : List StoreCell :=
  m.filter (fun c => c.1 / sectorWords == sector)

/-- Every word of the sector reads 0xFFFF (R186): a list in canonical form lists only other words. -/
def fullyErased (m : List StoreCell) (sector : Nat) : Bool := (Store.cellsOf m sector).isEmpty

/-- Some bits of the sector's words are set: which, is the free value number `n`. -/
def Store.setBits (n : Nat) (m : List StoreCell) (sector : Nat) : List StoreCell :=
  m.filterMap (fun c =>
    if c.1 / sectorWords = sector then
      let w := c.2 ||| Config.bitsErased n c.1
      if w = erasedWord then none else some (c.1, w)
    else some c)

/-- Every word of the sector but one is erased: which one is kept, is the free value number `n`. -/
def Store.keepOne (n : Nat) (m : List StoreCell) (sector : Nat) : List StoreCell :=
  let cells := Store.cellsOf m sector
  let kept := (cells[Config.wordKept n % cells.length]?).map (fun c => c.1)
  m.filter (fun c => c.1 / sectorWords != sector || kept == some c.1)

/-- A cut or failed erase has set some of the sector's bits, and not so many that every word reads 0xFFFF, for
then the erase would be done (R186, R202, R226; log entry 10). -/
def Store.erasePart (n : Nat) (m : List StoreCell) (sector : Nat) : List StoreCell :=
  if fullyErased (Store.setBits n m sector) sector then Store.keepOne n m sector
  else Store.setBits n m sector

end Sys2Proof.Machine
end

