-- ==== Sys2Proof/Machine/JournalCore.lean ====
section
/-! DEFINITION. The Tally Journal by itself (R186 to R202): placement, the array's choice of work, erase-ahead and
carry-forward, failures and the journal state, the start scan, the restore and the readout. -/

namespace Sys2Proof.Machine

/-! ## Sectors (R189) -/

/-- The state of a sector. -/
def Journal.sector (j : Journal) (n : Nat) : SectorState := j.sectors.getD n .faulted

/-- Set the state of a sector. -/
def Journal.setSector (j : Journal) (n : Nat) (x : SectorState) : Journal :=
  { j with sectors := j.sectors.setIfInBounds n x }

/-- The ACTIVE sector, if there is one. -/
def Journal.active (j : Journal) : Option Nat := [0, 1, 2, 3].find? (fun n => j.sector n == .active)

/-- The sectors that follow one in the rotation, it itself last (R189). -/
def rotationAfter (n : Nat) : List Nat := [(n + 1) % 4, (n + 2) % 4, (n + 3) % 4, (n + 4) % 4]

/-- The next sector after a given one: the first that follows it and is not FAULTED (R189). -/
def Journal.nextSector (j : Journal) (n : Nat) : Option Nat :=
  (rotationAfter n).find? (fun m => j.sector m != .faulted)

/-- Some sector is ERASING. -/
def Journal.anyErasing (j : Journal) : Bool := [0, 1, 2, 3].any (fun n => j.sector n == .erasing)

/-! ## The readable set (R189) -/

/-- The words of the body of a record of the readable set. -/
def Journal.bodyOf (j : Journal) (r : RecordRef) : List Word :=
  Store.slice j.store (storeAddr r.sector r.addr + 3) (r.length - 4)

/-- All the words of a record of the readable set. -/
def Journal.wordsOf (j : Journal) (r : RecordRef) : List Word :=
  Store.slice j.store (storeAddr r.sector r.addr) r.length

/-- The record with the highest sequence number of a list. -/
def highest : List RecordRef → Option RecordRef
  | [] => none
  | r :: rest =>
    match highest rest with
    | none => some r
    | some h => if h.seq < r.seq then some r else some h

/-- The latest MACHINE record (R189). -/
def Journal.latestMachine (j : Journal) : Option RecordRef :=
  highest (j.readable.filter (fun r => r.kind == .machine))

/-- A record kind is one of the two shift records. -/
def RecordKind.isShift (k : RecordKind) : Bool := k == .shiftSnapshot || k == .shiftClosed

/-- The latest shift record (R189). -/
def Journal.latestShift (j : Journal) : Option RecordRef :=
  highest (j.readable.filter (fun r => r.kind.isShift))

/-- The sector holds the latest MACHINE record or the latest shift record. -/
def Journal.holdsLatest (j : Journal) (n : Nat) : Bool :=
  (j.latestMachine.any (fun r => r.sector == n)) || (j.latestShift.any (fun r => r.sector == n))

/-- The pass count, record count and total of the readable TRUCK_CLOSED records of a shift whose sequence
numbers lie above a given one (R194, R200). -/
def Journal.trucksAbove (j : Journal) (shift seq : Nat) : Nat × Nat × Nat :=
  j.readable.foldl
    (fun acc r =>
      if r.kind = .truckClosed ∧ seq < r.seq then
        let (s, passes, total) := truckClosedFigures (j.bodyOf r)
        if s = shift then (acc.1 + passes, acc.2.1 + 1, acc.2.2 + total) else acc
      else acc)
    (0, 0, 0)

/-- Figures with the passes, trucks and kilograms of truck records added, each stopping at the top of its
width (R158, R163, R194). -/
def ShiftFigures.withTrucks (f : ShiftFigures) (t : Nat × Nat × Nat) : ShiftFigures :=
  { f with
    passes := satAdd limit16 f.passes t.1, trucks := satAdd limit16 f.trucks t.2.1,
    payload := satAdd limit32 f.payload t.2.2 }

/-! ## Placing and programming (R188, R191) -/

/-- Where a record of this many words can be placed now: the sector and the word (R191). -/
def Journal.place (j : Journal) (len : Nat) : Option (Nat × Nat) :=
  match j.active with
  | some a =>
    if len ≤ 1024 - j.fill then some (a, j.fill)
    else
      match j.nextSector a with
      | some n => if j.sector n = .erased then some (n, 0) else none
      | none => none
  | none => ((rotationAfter j.lastActive).find? (fun n => j.sector n == .erased)).map (fun n => (n, 0))

/-- Make the sector ACTIVE with fill 0 where it is not ACTIVE yet; the former ACTIVE sector becomes FULL
(R191), and the erase-ahead mark is cleared (R193). -/
def Journal.activate (j : Journal) (n : Nat) : Journal :=
  if j.active = some n then j
  else
    let j1 := match j.active with
      | some a => j.setSector a .full
      | none => j
    { j1.setSector n .active with fill := 0, lastActive := n, mark := false }

/-- The next-sequence number (R188); a 32-bit count, which stays at its limit (log entry 13). -/
def Journal.advanceSeq (j : Journal) : Journal := { j with nextSeq := satAdd limit32 j.nextSeq 1 }

/-- Begin to program a record at a place, taking a sequence number if it has none (R188, R191). While an
erase is in progress or held it is held, otherwise the array is PROGRAMMING (R192). -/
def Journal.beginProgram (j : Journal) (fromCarry : Bool) (kind : RecordKind) (body : List Word)
    (taken : Option Nat) (at_ : Nat × Nat) : Journal :=
  let seq := taken.getD j.nextSeq
  let j1 := if taken.isSome then j else j.advanceSeq
  let j2 := j1.activate at_.1
  { j2 with
    carry := match fromCarry, j2.carry with
      | true, c :: rest => { c with seq := some seq } :: rest
      | _, l => l,
    appendQueue := match fromCarry, j2.appendQueue with
      | false, q :: rest => { q with seq := some seq } :: rest
      | _, l => l,
    job := some { fromCarry := fromCarry, sector := at_.1, addr := at_.2, kind := kind, seq := seq,
                  words := recordWords kind seq body },
    op := if j2.op = .erasing ∨ j2.op = .eraseSuspended then .eraseSuspended else .programming }

/-! ## The array's choice of work (R192) -/

/-- The array is doing something that runs to its end before other work is taken. -/
def Journal.busy (j : Journal) : Bool := j.job.isSome || j.serving.isSome

/-- Where the front copy of the carry list can be programmed now. -/
def Journal.carryPlace (j : Journal) : Option (CarryCopy × Nat × Nat) :=
  match j.carry with
  | c :: _ => (j.place (c.body.length + 4)).map (fun p => (c, p))
  | [] => none

/-- Where the head of the append queue can be programmed now. -/
def Journal.appendPlace (j : Journal) : Option (AppendRequest × Nat × Nat) :=
  match j.appendQueue with
  | q :: _ => (j.place (q.body.length + 4)).map (fun p => (q, p))
  | [] => none

/-- Take the next work, in the order of R192: a copy, the head of the append queue, the oldest read, the
erase. A read or a placeable append that meets ERASING suspends the erase. A copy that can only wait for a
sector does not hold the erase back (log entry 15). An array that serves a read with no erase held is IDLE with the
request in `serving`, and is not free until READ_SERVED (DESIGN CHOICE, log entry 53). -/
def Journal.pump (j : Journal) : Journal :=
  if j.busy then j
  else
    match j.carryPlace with
    | some (c, p) => j.beginProgram true c.kind c.body c.seq p
    | none =>
      match j.appendPlace with
      | some (q, p) => j.beginProgram false q.kind q.body q.seq p
      | none =>
        match j.readQueue with
        | r :: rest =>
          { j with
            serving := some r, readQueue := rest,
            op := if j.op = .erasing ∨ j.op = .eraseSuspended then .eraseSuspended else .idle }
        | [] => { j with op := if j.eraseSector.isSome then .erasing else .idle }

/-! ## Append requests (R190) -/

/-- A request arrives: it is dropped and counted in FAULT or where the queue holds four, and otherwise joins
the tail. The answer says whether it was taken. -/
def Journal.append (j : Journal) (kind : RecordKind) (body : List Word) : Journal × Bool :=
  if j.jstate = .fault ∨ 4 ≤ j.appendQueue.length then
    ({ j with lostAppends := inc j.lostAppends }, false)
  else
    (Journal.pump { j with appendQueue := j.appendQueue ++ [{ kind := kind, body := body, seq := none }] },
     true)

/-! ## Journal state (R197) -/

/-- The condition of FAULT (R197). -/
def Journal.faultCondition (j : Journal) : Bool :=
  decide (([0, 1, 2, 3].filter (fun n => j.sector n != .faulted)).length < 2) ||
  ([0, 1, 2, 3].all (fun n => j.sector n != .active && j.sector n != .erased && j.sector n != .erasing) &&
   [0, 1, 2, 3].all (fun n => j.sector n != .full || j.holdsLatest n))

/-- Judge the journal state; it does not improve before the next start, and on entry to FAULT every queued
request and copy is dropped, each request being counted (R197). -/
def Journal.judge (j : Journal) : Journal :=
  if j.jstate = .fault then j
  else if j.faultCondition then
    { j with
      jstate := .fault, lostAppends := satAdd limit16 j.lostAppends j.appendQueue.length,
      appendQueue := [], carry := [], target := none }
  else if [0, 1, 2, 3].any (fun n => j.sector n == .faulted) then { j with jstate := .degraded }
  else j

/-! ## Erase-ahead and carry-forward (R193, R194) -/

/-- The sector leaves the readable set and becomes ERASING; its erase starts when the array is free
(R193). -/
def Journal.enterErasing (j : Journal) (n : Nat) : Journal :=
  { j.setSector n .erasing with
    readable := j.readable.filter (fun r => r.sector != n), eraseSector := some n, eraseTime := 0,
    target := none }

/-- The copy of a record (R194): a snapshot copy folds in the later truck records of its shift. -/
def Journal.copyOf (j : Journal) (r : RecordRef) : CarryCopy :=
  let b := j.bodyOf r
  { original := r.seq, kind := r.kind, seq := none,
    body :=
      if r.kind = .shiftSnapshot then
        let f := ShiftFigures.ofBody b
        (f.withTrucks (j.trucksAbove f.shift r.seq)).body (long b 16).toNat
      else b }

/-- The records a FULL target needs carried forward, in the order of their sequence numbers (R194). -/
def Journal.needed (j : Journal) (n : Nat) : List RecordRef :=
  let m := j.latestMachine.toList.filter (fun r => r.sector == n)
  let s := j.latestShift.toList.filter (fun r => r.sector == n)
  match m, s with
  | [a], [b] => if a.seq < b.seq then [a, b] else [b, a]
  | l, k => l ++ k

/-- The copies an erase-ahead of the target adds to the carry list: of needed records of which no copy is
already in it (R194, R196). -/
def Journal.newCopies (j : Journal) (n : Nat) : List CarryCopy :=
  ((j.needed n).filter (fun r => !j.carry.any (fun c => c.original == r.seq))).map j.copyOf

/-- Words a list of copies takes. -/
def copyWords (l : List CarryCopy) : Nat := (l.map (fun c => c.body.length + 4)).sum

/-- Erase-ahead with no ACTIVE sector (R193): the first ERASED sector completes it, the first FULL sector
without either latest record is erased; where there is none the journal state is judged. -/
def Journal.eraseAheadNoActive (j : Journal) : Journal :=
  match (rotationAfter j.lastActive).find? (fun n =>
      j.sector n == .erased || (j.sector n == .full && !j.holdsLatest n)) with
  | some n => if j.sector n = .erased then j else j.enterErasing n
  | none => j.judge

/-- Erase-ahead begins, or waits for the erase in progress to end (R193, R194). -/
def Journal.beginEraseAhead (j : Journal) : Journal :=
  if j.anyErasing then { j with deferred := true }
  else
    let j1 := { j with mark := true, deferred := false }
    match j1.active with
    | none => j1.eraseAheadNoActive
    | some a =>
      match j1.nextSector a with
      | none => j1.judge
      | some n =>
        match j1.sector n with
        | .erased => j1
        | .full =>
          let carry := j1.carry ++ j1.newCopies n
          if copyWords carry ≤ 1024 - j1.fill then
            if carry.isEmpty then j1.enterErasing n else { j1 with carry := carry, target := some n }
          else (j1.setSector a .full).eraseAheadNoActive
        | .active | .erasing | .faulted => j1.judge

/-- The conditions under which an erase-ahead begins again: the ACTIVE sector's fill is 768 or more, or there
is no ACTIVE sector (R195, R196). -/
def Journal.callsEraseAhead (j : Journal) : Bool := j.active.isNone || 768 ≤ j.fill

/-! ## The ends of array work -/

/-- The job leaves the list it came from. -/
def Journal.dequeueJob (j : Journal) (job : ProgramJob) : Journal :=
  if job.fromCarry then { j with job := none, carry := j.carry.tail }
  else { j with job := none, appendQueue := j.appendQueue.tail }

/-- The array is no longer programming: IDLE, unless an erase is held (R192). -/
def Journal.programEnded (j : Journal) : Journal :=
  { j with op := if j.op = .programming then .idle else j.op }

/-- A record that has left its list is written (R191), with the store as the word programs left it: it joins
the readable set and the fill advances; a carry-forward whose last copy is written lets the target be erased
(R194), and a fill of 768 or more begins erase-ahead (R193). -/
def Journal.written (j : Journal) (job : ProgramJob) (store : List StoreCell) : Journal :=
  let j1 := j.programEnded
  let ref : RecordRef := { sector := job.sector, addr := job.addr, kind := job.kind,
                           length := job.words.length, seq := job.seq }
  let j2 := { j1 with
    store := store, fill := j1.fill + job.words.length, readable := j1.readable ++ [ref] }
  let j3 := match j2.target, j2.carry with
    | some n, [] => j2.enterErasing n
    | _, _ => j2
  if 768 ≤ j3.fill ∧ j3.mark = false then j3.beginEraseAhead else j3

/-- A word program has failed (R196), with the store as it is left: the sector is FAULTED, the record keeps
its place at the front of its list and its sequence number, an erase-ahead with copies left is abandoned, the
state is judged and erase-ahead begins under the no-ACTIVE case. -/
def Journal.failedProgram (j : Journal) (job : ProgramJob) (store : List StoreCell) : Journal :=
  let j1 := { (j.setSector job.sector .faulted).programEnded with
    store := store, job := none, programFailures := inc j.programFailures, target := none }
  Journal.pump (j1.judge.beginEraseAhead)

/-- An erase is done (R195): the sector is ERASED; an erase-ahead that waited for it begins. -/
def Journal.erased (j : Journal) (n : Nat) : Journal :=
  let j1 := { j.setSector n .erased with
    store := Store.eraseSector j.store n, eraseSector := none, eraseTime := 0, op := .idle }
  Journal.pump (if j1.deferred then j1.beginEraseAhead else j1)

/-- An erase has failed (R195), with the store as it is left: the sector is FAULTED, the state is judged, and
erase-ahead begins again where R195 calls for it or one waited. -/
def Journal.failedErase (j : Journal) (n : Nat) (store : List StoreCell) : Journal :=
  let j1 := { j.setSector n .faulted with
    store := store, eraseSector := none, eraseTime := 0, op := .idle,
    eraseFailures := inc j.eraseFailures }
  let j2 := j1.judge
  Journal.pump (if j2.callsEraseAhead || j2.deferred then j2.beginEraseAhead else j2)

/-! ## Readout and drain (R201, R202) -/

/-- A read request the journal takes joins the read queue, which holds two waiting (R201). -/
def Journal.requestRead (j : Journal) (seq : Nat) : Journal :=
  if 2 ≤ j.readQueue.length then { j with lostReads := inc j.lostReads }
  else Journal.pump { j with readQueue := j.readQueue ++ [seq] }

/-- The record of a list with the lowest sequence number. -/
def lowest : List RecordRef → Option RecordRef
  | [] => none
  | r :: rest =>
    match lowest rest with
    | none => some r
    | some h => if r.seq < h.seq then some r else some h

/-- The record a read finds: the lowest readable one at or above the number asked, MACHINE records passed
over (R201). -/
def Journal.findRead (j : Journal) (seq : Nat) : Option RecordRef :=
  lowest (j.readable.filter (fun r => r.kind != .machine && seq ≤ r.seq))

/-- Cut words into runs of up to 15 (R201); `fuel` bounds the number of runs. -/
def chunks15 : Nat → List Word → List (List Word)
  | 0, _ => []
  | _, [] => []
  | fuel + 1, w :: ws => (w :: ws).take 15 :: chunks15 fuel ((w :: ws).drop 15)

/-- The data of the JOURNAL_RECORD telegrams that answer a read (R201). -/
def Journal.answer (j : Journal) (seq : Nat) : List (List Word) :=
  match j.findRead seq with
  | none => [journalEndData]
  | some r =>
    let parts := chunks15 7 (j.wordsOf r)
    parts.mapIdx (fun i ws => journalRecordData (i + 1) parts.length ws)

/-- The journal is drained (R202). -/
def Journal.drained (j : Journal) : Bool :=
  j.appendQueue.isEmpty && j.carry.isEmpty && j.job.isNone && !j.anyErasing

/-! ## Start scan (R198, R199) -/

/-- What the scan of one sector finds (R198). -/
structure SectorScan where
  valid : List RecordRef
  torn : Nat
  bad : Nat
  closed : Bool
  /-- The word after the last record that a possible header begins; 0 where there is none. -/
  fill : Nat
deriving DecidableEq, Repr

/-- Walk a sector from a word on (R198). -/
def scanFrom (m : List StoreCell) (sector : Nat) : Nat → Nat → SectorScan → SectorScan
  | 0, _, acc => acc
  | fuel + 1, pos, acc =>
    if 1024 ≤ pos then acc
    else
      let w := Store.read m (storeAddr sector pos)
      if w = erasedWord then acc
      else
        match possibleHeader w pos with
        | none => { acc with closed := true }
        | some (kind, len) =>
          let front := Store.slice m (storeAddr sector pos) (len - 1)
          let check := Store.read m (storeAddr sector (pos + len - 1))
          let seq := (long front 1).toNat
          let ref : RecordRef := { sector := sector, addr := pos, kind := kind, length := len, seq := seq }
          let acc' :=
            if check = checkWord front then { acc with valid := acc.valid ++ [ref] }
            else if check = erasedWord then { acc with torn := acc.torn + 1 }
            else { acc with bad := acc.bad + 1 }
          scanFrom m sector fuel (pos + len) { acc' with fill := pos + len }

/-- Scan one sector (R198). -/
def scanSector (m : List StoreCell) (sector : Nat) : SectorScan :=
  scanFrom m sector 1024 0 { valid := [], torn := 0, bad := 0, closed := false, fill := 0 }

/-- The sectors, counters and readable set that the scan sets up (R198, R199). -/
def Journal.scan (m : List StoreCell) : Journal :=
  let s0 := scanSector m 0
  let s1 := scanSector m 1
  let s2 := scanSector m 2
  let s3 := scanSector m 3
  let scans := [s0, s1, s2, s3]
  let readable := scans.flatMap (fun x => x.valid)
  let top := highest readable
  let act := match top with
    | some r => r.sector
    | none => 0
  let state := fun (n : Nat) =>
    if n = act then SectorState.active else if fullyErased m n then .erased else .full
  let actScan := scans.getD act s0
  { store := m, sectors := #v[state 0, state 1, state 2, state 3],
    fill := if actScan.closed then 1024 else actScan.fill,
    lastActive := act, readable := readable,
    nextSeq := match top with
      | some r => satAdd limit32 r.seq 1
      | none => 1,
    appendQueue := [], readQueue := [], serving := none, carry := [], job := none, op := .idle,
    target := none, eraseSector := none, eraseTime := 0, mark := false, deferred := false,
    jstate := .ok, lostAppends := 0, lostReads := 0, programFailures := 0, eraseFailures := 0,
    torn := satSum (scans.map (fun x => x.torn)), bad := satSum (scans.map (fun x => x.bad)),
    closed := satSum (scans.map (fun x => if x.closed then 1 else 0)), drainAsked := false }

/-- Once the restore has been handed over, erase-ahead begins if the ACTIVE sector's fill is 768 or more
(R193, R199). -/
def Journal.afterRestore (j : Journal) : Journal :=
  if 768 ≤ j.fill then Journal.pump j.beginEraseAhead else j

/-! ## Restore (R36, R163, R200) -/

/-- The machine record the journal hands over, if there is a valid one (R200). -/
def Journal.restoredRecord (j : Journal) : Option MachineRecord :=
  j.latestMachine.map (fun r => MachineRecord.ofBody (j.bodyOf r))

/-- Shift numbers run from 1 to 65,535 and on to 1 (R157). -/
def nextShift (n : Nat) : Nat := if n = 65535 then 1 else n + 1

/-- The open shift a start restores, with the calendar stamp and time-set of that moment (R163, R200). -/
def Journal.restoredShift (j : Journal) (stamp : Nat) (timeSet : Bool) : ShiftFigures :=
  match j.latestShift with
  | none => .opened 1 stamp timeSet
  | some r =>
    let f := ShiftFigures.ofBody (j.bodyOf r)
    if r.kind = .shiftSnapshot then f.withTrucks (j.trucksAbove f.shift r.seq)
    else .opened (nextShift f.shift) stamp timeSet

/-! ## Power loss (R202, R226) -/

/-- Where a job's first word stands in the array (R186, R191). -/
def ProgramJob.start (job : ProgramJob) : Nat := storeAddr job.sector job.addr

/-- The word programs of a cut job: the header is programmed, at least one word is not, and a cut check word
keeps bit 15 (log entry 8). The word that is cut lies no further than the first that cannot be programmed, for no
program passes it (R186). `n` numbers the free values. -/
def ProgramJob.cut (job : ProgramJob) (n : Nat) (m : List StoreCell) : List StoreCell :=
  let last := job.words.length - 1
  let k := min (1 + Config.wordsProgrammed n % last) (Store.runLength m job.start job.words)
  let left := if k = last then Config.bitsLeft n ||| 0x8000#16 else Config.bitsLeft n
  Store.programPart m job.start job.words k left

/-- The words of a job whose program can fail (R186). -/
def ProgramJob.failable (job : ProgramJob) (m : List StoreCell) : List Nat :=
  Store.failable m job.start job.words

/-- The word programs of a failed job: the words before the failed one are programmed, and the one that failed, a
word whose program can fail, does not read its value (R186, log entry 9). -/
def ProgramJob.fail (job : ProgramJob) (n : Nat) (m : List StoreCell) : List StoreCell :=
  let ks := job.failable m
  let k := ks.getD (Config.wordsProgrammed n % ks.length) 0
  let a := job.start
  let w := wordAt job.words k
  let old := Store.read m (a + k)
  let left := if old &&& (w ||| Config.bitsLeft n) = w then erasedWord else Config.bitsLeft n
  Store.programPart m a job.words k left

/-- An erase that has begun and has not ended, in progress or held (R192). -/
def Journal.eraseBegun (j : Journal) : Bool := j.op == .erasing || j.op == .eraseSuspended

/-- The array as a loss of power leaves it (R202, R226); what the journal was doing is over. -/
def Journal.cut (j : Journal) (n : Nat) : Journal :=
  let m1 := match j.job with
    | some job => job.cut n j.store
    | none => j.store
  let m2 := match j.eraseSector with
    | some e => if j.eraseBegun then Store.erasePart n m1 e else m1
    | none => m1
  { j with store := m2, job := none, serving := none, eraseSector := none, op := .idle }

end Sys2Proof.Machine
end

