-- ==== Sys2Proof/Machine/State.lean ====
section
/-! DEFINITION. The whole state of the part, the (empty) list of faults, the refusals, and the state after
reset. -/

namespace Sys2Proof.Machine

/-- The state of the part: the pins, one record for each block, the events on their way between blocks, the
model's counter of free values used, and the queue of waiting commands, oldest first. -/
structure State where
  pins : Pins
  modeCtl : ModeCtl
  line : LineInterface
  prod : ProducerTable
  weigher : Weigher
  cal : Calibration
  pass : PassUnit
  trucks : TruckList
  cycle : CycleTracker
  clock : ShiftClock
  tally : ShiftFigures
  journal : Journal
  display : Display
  mail : Mail
  freeCount : Nat
  pending : List Instr
deriving DecidableEq, Repr

/-- Reasons to stop. The spec gives the part no fault that stops it, so there is none: a failed program or
erase faults a sector and goes on (R195, R196), and CLASH ends transmission only (R213). -/
inductive Fault where
deriving DecidableEq, Repr

/-- Reasons to refuse a command. -/
inductive Refusal where
  /-- Raised by no meaning: it would stand in `exec`'s arm of a command that has no meaning yet. Safe. -/
  | notModelled (mnemonic : String)
deriving DecidableEq, Repr

/-- The straps at reset: all low (inputs; DESIGN CHOICE, log entry 5). -/
def strapsAtReset : Straps := { station := 0, rate0 := false, rate1 := false }

/-- The part right after the reset line has risen (R226) over an erased array, in START with steps 1 to 3
of R221 taken: every field at the value its chapter states. The input pins (log entry 5), the array's
contents (log entry 4), the capture's own figures (log entry 37) and the JOIN timer (log entry 52) are the model's
choice. -/
def State.reset : State :=
  { pins := { resetLow := false, straps := strapsAtReset, keySwitchHigh := true, keyLevels := 0 },
    modeCtl :=
      { mode := .start, station := stationOf strapsAtReset, rate := rateOf strapsAtReset,
        listenOnly := isListenOnly strapsAtReset, keyOn := true, stability := 0, joinTimer := 0,
        restartPending := false },
    line := .start,
    prod := .start,
    weigher := .start,
    cal := .start .default 0,
    pass := .start,
    trucks := .start,
    cycle := .start,
    clock := .afterReset,
    tally := .opened 1 0 false,
    journal := .overErasedArray,
    display := .start none,
    mail := .start,
    freeCount := 0,
    pending := [] }

end Sys2Proof.Machine
end

