-- ==== Sys2Proof/Machine/Ops.lean ====
section
/-! DEFINITION. The operations several blocks share: the answer of a command, change notices, the message line,
events on their way between blocks, free values, and handing a telegram to the Line Interface. -/

namespace Sys2Proof.Machine

/-- The answer of a command whose effect is `f`: while the reset line is held low no block takes any event
(R226). -/
def whilePowered (s : State) (f : State → State) : Host.Outcome State Fault Refusal :=
  .next (if s.pins.resetLow then s else f s)

/-- A change notice sets the stale mark (R170). -/
def notice (s : State) : State := { s with display := { s.display with stale := true } }

/-- Place a message on the message line, with its full 3.0 s (R179). -/
def placeMessage (m : Message) (s : State) : State :=
  { s with display := { s.display with message := some m, messageTimer := some 3000, stale := true } }

/-- Make the message absent and stop its timer (R179). -/
def clearMessage (s : State) : State :=
  { s with display := { s.display with message := none, messageTimer := none, stale := true } }

/-- Use one free value: the model's counter moves on. -/
def useFree (s : State) : State := { s with freeCount := s.freeCount + 1 }

/-- The present calendar stamp (R146). -/
def stampNow (s : State) : Nat := s.clock.calendar.toSeconds

/-- The part may not transmit at all (R215). -/
def muted (s : State) : Bool := s.modeCtl.listenOnly || s.line.clash

/-- The stations of the part's own number: the target of a request is the part, and it takes requests at
all (R39, R201). -/
def addressed (target : Nat) (s : State) : Bool := target == s.modeCtl.station && !s.modeCtl.listenOnly

/-! ## The transmit queue (R214, R215) -/

/-- Put a telegram in its place: by class, and within a class in order of entry (R214). -/
def enqueue : List TxTelegram → TxTelegram → List TxTelegram
  | [], t => [t]
  | x :: rest, t => if t.kind.cls < x.kind.cls then t :: x :: rest else x :: enqueue rest t

/-- A class 2 telegram that is not being sent, which a class 1 telegram may evict (R215). -/
def TxTelegram.evictable (t : TxTelegram) : Bool := t.kind.cls == 2 && !t.sending

/-- The telegram enters the queue with the current send sequence of its kind, which then advances
(R214). -/
def LineInterface.enter (l : LineInterface) (kind : TxKind) (data : List Word) : LineInterface :=
  { l with
    queue := enqueue l.queue
      { kind := kind, seq := l.sendSeq[kind.idx], data := data, attempts := 0, sending := false },
    sendSeq := l.sendSeq.set kind.idx ((l.sendSeq[kind.idx] + 1) % 16) }

/-- The queue policy (R215), where neither LISTEN_ONLY nor CLASH discards the telegram. A newcomer that is
dropped on arrival has not entered the queue and takes no sequence number (DESIGN CHOICE, log entry 50). -/
def LineInterface.offer (l : LineInterface) (kind : TxKind) (data : List Word) : LineInterface :=
  if l.queue.length < 8 then l.enter kind data
  else if kind.cls == 1 && l.queue.any TxTelegram.evictable then
    LineInterface.enter
      { l with queue := l.queue.eraseP TxTelegram.evictable, dropped := inc l.dropped } kind data
  else { l with dropped := inc l.dropped }

/-- Hand a telegram to the Line Interface (R215). -/
def transmit (kind : TxKind) (data : List Word) (s : State) : State :=
  if muted s then s else { s with line := s.line.offer kind data }

/-! ## Events raised by one block and taken by another in a step of its own -/

/-- The Cycle Tracker raises a dump event with the tag of its current cycle (R138). -/
def raiseDump (tag : Nat) (s : State) : State :=
  { s with mail := { s.mail with dumps := s.mail.dumps ++ [tag] } }

/-- The Cycle Tracker raises a boom-below event (R137). -/
def raiseBoomBelow (s : State) : State :=
  { s with mail := { s.mail with boomBelow := s.mail.boomBelow + 1 } }

/-- The Pass Unit reports a commit to the Cycle Tracker (R87). -/
def raiseCommitReport (tag : Nat) (s : State) : State :=
  { s with mail := { s.mail with commits := s.mail.commits ++ [tag] } }

/-- The Pass Unit reports a resolution to the Weigher (R93). -/
def raiseResolution (s : State) : State :=
  { s with mail := { s.mail with resolutions := s.mail.resolutions + 1 } }

/-! ## Append requests whose outcome the requester does not wait for -/

/-- The Truck List and the Shift Tally ask the journal to append a record (R113, R160, R162, R190). -/
def requestAppend (kind : RecordKind) (body : List Word) (s : State) : State :=
  { s with journal := (s.journal.append kind body).1 }

end Sys2Proof.Machine
end

