-- ==== Sys2Proof/Machine/ShiftTally.lean ====
section
/-! DEFINITION. The Shift Tally (R157 to R165): the requests it takes, its records, the rate and the average
cycle time. -/

namespace Sys2Proof.Machine

/-- A request that changes shift figures, with its change notice (R158, R170). -/
def tallyRequest (f : ShiftFigures → ShiftFigures) (s : State) : State := notice { s with tally := f s.tally }

/-- Lift aborted (R158). -/
def ShiftFigures.liftAborted (f : ShiftFigures) : ShiftFigures := { f with aborted := inc f.aborted }

/-- Empty lift (R158). -/
def ShiftFigures.emptyLift (f : ShiftFigures) : ShiftFigures := { f with empties := inc f.empties }

/-- Carried back (R158). -/
def ShiftFigures.carryBack (f : ShiftFigures) : ShiftFigures := { f with carriedBack := inc f.carriedBack }

/-- Pass committed, with weight (R158). -/
def ShiftFigures.passCommitted (f : ShiftFigures) (weight : Nat) : ShiftFigures :=
  { f with passes := inc f.passes, payload := satAdd limit32 f.payload weight }

/-- Truck closed (R158). -/
def ShiftFigures.truckClosed (f : ShiftFigures) : ShiftFigures := { f with trucks := inc f.trucks }

/-- Re-dig (R158). -/
def ShiftFigures.redig (f : ShiftFigures) : ShiftFigures := { f with redigs := inc f.redigs }

/-- Cycle complete, with total and WEIGHED (R158). -/
def ShiftFigures.cycleComplete (f : ShiftFigures) (total : Nat) (weighed : Bool) : ShiftFigures :=
  { f with
    cycles := inc f.cycles, cycleTimeSum := satAdd limit32 f.cycleTimeSum total,
    unweighed := if weighed then f.unweighed else inc f.unweighed }

/-- Pass deleted, with weight (R159). -/
def ShiftFigures.passDeleted (f : ShiftFigures) (weight : Nat) : ShiftFigures :=
  { f with passes := satSub limit16 f.passes 1, payload := satSub limit32 f.payload weight }

/-- Cycle weighed late (R159). -/
def ShiftFigures.weighedLate (f : ShiftFigures) : ShiftFigures :=
  { f with unweighed := satSub limit16 f.unweighed 1 }

/-- The Shift Tally writes the closing shift's SHIFT_CLOSED record and opens the next shift (R160). -/
def closeShift (s : State) : State :=
  let s1 := requestAppend .shiftClosed (s.tally.body (stampNow s)) s
  notice { s1 with tally := .opened (nextShift s.tally.shift) (stampNow s) true }

/-- The SHIFT_SNAPSHOT of key-off closing (R162). -/
def takeSnapshot (s : State) : State :=
  requestAppend .shiftSnapshot (s.tally.body (stampNow s)) s

/-- The open time is corrected when time-set first becomes set (R161); a result off the calendar's range is
left open by the spec (log entry 12). -/
def correctOpenTime (step : Int) (s : State) : State :=
  if s.tally.openTimeSet then s
  else
    let t : Int := s.tally.openTime + step
    let moved := if 0 ≤ t ∧ t < calendarSpan then t.toNat else (Config.openTimeOutside t).toNat
    notice { s with tally := { s.tally with openTime := moved, openTimeSet := true } }

/-- The rate of the open shift in 0.1 t/h, absent unless all conditions of R164 hold. -/
def shiftRate (s : State) : Option Nat :=
  let elapsed : Int := (stampNow s : Int) - s.tally.openTime
  if s.clock.timeSet && s.tally.openTimeSet && decide (300 ≤ elapsed) then
    some (clamp 0 65535 (roundDiv (s.tally.payload * 36) elapsed)).toNat
  else none

/-- The average cycle time in 0.1 s, absent while there are no cycles (R165). -/
def averageCycle (f : ShiftFigures) : Option Nat :=
  if f.cycles = 0 then none else some (roundDiv f.cycleTimeSum f.cycles).toNat

end Sys2Proof.Machine
end

