-- ==== Sys2Proof/Machine/TruckOps.lean ====
section
/-! DEFINITION. The Truck List (R101 to R124). -/

namespace Sys2Proof.Machine

/-- The density of a material in a record (R34, R81). -/
def MachineRecord.rho (r : MachineRecord) (m : Material) : Int :=
  match m with
  | .m1 => r.rho1 | .m2 => r.rho2 | .m3 => r.rho3 | .m4 => r.rho4

/-- The rated bucket load of the selected material in kg (R82, R118). -/
def ratedLoad (s : State) : Int := roundDiv (s.cal.active.rho s.pass.material * s.cal.active.volume) 1000

/-- The loading advice for a head (R118). -/
def adviceFor (rated : Int) (e : TruckEntry) : Advice :=
  let remaining := e.target - e.total
  if remaining ≤ 0 then .full else if remaining < rated then .lastPass else .none

/-- Queue a TRUCK_STATE describing one truck, with the number of entries after the event (R121); advice is
formed for the head only. -/
def sendTruckState (e : TruckEntry) (position : TruckPosition) (entries : Nat) (s : State) : State :=
  let advice := if position = .head then adviceFor (ratedLoad s) e else .none
  transmit .truckState (truckStateData s.tally.shift e position advice entries) s

/-- Replace the entries of the list, with a change notice (R170). -/
def setEntries (entries : List TruckEntry) (s : State) : State :=
  notice { s with trucks := { s.trucks with entries := entries } }

/-- An entry with its flags judged anew (R103). -/
def TruckEntry.judged (e : TruckEntry) (overTolerance : Int) : TruckEntry :=
  { e with flags := truckFlags overTolerance e.target e.passes e.total }

/-- The message of a close reason, if it has one (R115). -/
def CloseReason.message (r : CloseReason) : Option Message :=
  match r with
  | .departed => some .truckDeparted
  | .next => some .truckClosed
  | .passLimit => some .passLimitClosed
  | .shiftChange | .keyOff => none

/-- Place a message if there is one. -/
def placeIfAny (m : Option Message) (s : State) : State :=
  match m with
  | some x => placeMessage x s
  | none => s

/-- The head closes (R113); the callers close only a head that holds a pass. -/
def closeHead (reason : CloseReason) (s : State) : State :=
  match s.trucks.entries with
  | [] => s
  | e :: rest =>
    let s1 := requestAppend .truckClosed (truckClosedBody s.tally.shift e reason (stampNow s)) s
    let s2 := tallyRequest .truckClosed s1
    let s3 := sendTruckState e (.closed reason) rest.length s2
    let s4 := placeIfAny reason.message s3
    setEntries rest s4

/-- An anonymous entry with the default target (R105). -/
def anonymousTruck (s : State) : TruckEntry :=
  { identity := none, target := s.cal.active.defaultTarget, passes := [], total := 0,
    flags := { overload := false, quality := false } }

/-- An entry with one more pass (R103, R104). -/
def TruckEntry.withPass (e : TruckEntry) (overTolerance : Int) (p : PassRecord) : TruckEntry :=
  TruckEntry.judged
    { e with
      passes := e.passes ++ [{ number := e.passes.length + 1, weight := p.weight, flags := p.flags }],
      total := e.total + p.weight } overTolerance

/-- The head a commit meets, an anonymous one being created on an empty list (R104, R105), and the entries
behind it. -/
def headForCommit (s : State) : TruckEntry × List TruckEntry :=
  match s.trucks.entries with
  | [] => (anonymousTruck s, [])
  | e :: rest => (e, rest)

/-- The Truck List takes a commit (R104 to R106). -/
def truckCommit (p : PassRecord) (s : State) : State :=
  let (e, rest) := headForCommit s
  let e' := e.withPass s.cal.active.overTolerance p
  let s1 := setEntries (e' :: rest) s
  let s2 := tallyRequest (fun f => f.passCommitted p.weight.toNat) s1
  let s3 := transmit .passResult (passResultData s.tally.shift e.identity e'.passes.length p) s2
  if e'.passes.length = 15 then closeHead .passLimit s3
  else sendTruckState e' .head (rest.length + 1) s3

/-- The modes in which notices are taken (R107). -/
def takesNotices (m : Mode) : Bool := m == .join || m == .run || m == .service

/-- The target of an ANNOUNCE as clamped (R107). -/
def clampTarget (t : Int) : Int := clamp 1000 200000 t

/-- Where an identity stands in the list. -/
def findTruck (id : BitVec 32) (entries : List TruckEntry) : Option Nat :=
  entries.findIdx? (fun e => e.identity == some id)

/-- An ANNOUNCE of a listed identity (R108). -/
def retarget (n : Nat) (e : TruckEntry) (target : Int) (s : State) : State :=
  let e' := TruckEntry.judged { e with target := target } s.cal.active.overTolerance
  let s1 := setEntries (s.trucks.entries.set n e') s
  if target = e.target then s1
  else sendTruckState e' (if n = 0 then .head else .waiting) s.trucks.entries.length s1

/-- The Truck List takes an ANNOUNCE (R107 to R109). -/
def announce (id : BitVec 32) (target : Int) (s : State) : State :=
  if takesNotices s.modeCtl.mode then
    let t := clampTarget target
    match findTruck id s.trucks.entries with
    | some n =>
      match s.trucks.entries[n]? with
      | some e => retarget n e t s
      | none => s
    | none =>
      if s.trucks.entries.length < 4 then
        setEntries (s.trucks.entries ++
          [{ identity := some id, target := t, passes := [], total := 0,
             flags := { overload := false, quality := false } }]) s
      else
        placeMessage .truckListFull
          { s with trucks := { s.trucks with refused := inc s.trucks.refused } }
  else s

/-- The Truck List takes a DEPART (R107, R110). -/
def depart (id : BitVec 32) (s : State) : State :=
  if takesNotices s.modeCtl.mode then
    match findTruck id s.trucks.entries with
    | none => notice { s with trucks := { s.trucks with unknown := inc s.trucks.unknown } }
    | some n =>
      match s.trucks.entries with
      | e :: _ =>
        if n = 0 ∧ e.passes ≠ [] then closeHead .departed s
        else setEntries (s.trucks.entries.eraseIdx n) s
      | [] => s
  else s

/-- The NEXT key (R111). -/
def nextKey (s : State) : State :=
  match s.trucks.entries with
  | [] => placeMessage .noTruck s
  | e :: rest =>
    if e.passes ≠ [] then closeHead .next s
    else if e.identity.isNone then placeMessage .truckRemoved (setEntries rest s)
    else if rest = [] then placeMessage .noPasses s
    else placeMessage .truckToEnd (setEntries (rest ++ [e]) s)

/-- An entry without its last pass (R103, R112). -/
def TruckEntry.withoutLast (e : TruckEntry) (overTolerance : Int) (weight : Int) : TruckEntry :=
  TruckEntry.judged { e with passes := e.passes.dropLast, total := e.total - weight } overTolerance

/-- The delete action reaches the Truck List (R112); the removal report makes the last pass shown absent
(R100). -/
def deletePass (s : State) : State :=
  match s.trucks.entries with
  | [] => placeMessage .nothingToDelete s
  | e :: rest =>
    match e.passes.getLast? with
    | none => placeMessage .nothingToDelete s
    | some p =>
      let e' := e.withoutLast s.cal.active.overTolerance p.weight
      let s1 := setEntries (e' :: rest) s
      let s2 := tallyRequest (fun f => f.passDeleted p.weight.toNat) s1
      let s3 := sendTruckState e' .head (rest.length + 1) s2
      placeMessage (.passDeleted e.passes.length) { s3 with pass := { s3.pass with lastShown := none } }

/-- The head holds at least one pass. -/
def headHoldsPass (s : State) : Bool :=
  match s.trucks.entries with
  | e :: _ => !e.passes.isEmpty
  | [] => false

/-- Step 1 of a shift change (R116). -/
def shiftChangeClose (s : State) : State := if headHoldsPass s then closeHead .shiftChange s else s

/-- Step 2 of closing: the key-off close, and the list is emptied (R117). The TRUCK_STATE of the close counts
the waiting trucks still listed, the close being the event of R121 (DESIGN CHOICE, log entry 45). -/
def keyOffClose (s : State) : State :=
  let s1 := if headHoldsPass s then closeHead .keyOff s else s
  setEntries [] s1

end Sys2Proof.Machine
end

