-- ==== Sys2Proof/Machine/PassOps.lean ====
section
/-! DEFINITION. The Pass Unit (R79 to R100). -/

namespace Sys2Proof.Machine

/-- The fill of a weight in a material (R81). -/
def passFill (r : MachineRecord) (m : Material) (weight : Int) : Int :=
  clamp 0 1500 (roundDiv (weight * 1000000) (r.rho m * r.volume))

/-- The Pass Unit takes a pass from the Weigher (R80). -/
def takePass (weight : Int) (flags : QualityFlags) (samples stamp : Nat) (s : State) : State :=
  let p : PassRecord :=
    { weight := weight, fill := passFill s.cal.active s.pass.material weight, flags := flags,
      samples := samples, stamp := stamp, material := s.pass.material }
  notice { s with pass := { s.pass with pending := some p } }

/-- The material the MATERIAL key selects next (R82). -/
def Material.next (m : Material) : Material :=
  match m with
  | .m1 => .m2 | .m2 => .m3 | .m3 => .m4 | .m4 => .m1

/-- A pending pass under a newly selected material (R83). -/
def PassRecord.rematerial (p : PassRecord) (r : MachineRecord) (m : Material) : PassRecord :=
  { p with material := m, fill := passFill r m p.weight }

/-- The MATERIAL key, taken in RUN and SERVICE (R82, R83). -/
def materialKey (s : State) : State :=
  let m := s.pass.material.next
  let s1 := { s with
    pass := { s.pass with
      material := m, pending := s.pass.pending.map (fun p => p.rematerial s.cal.active m) } }
  placeMessage (.material m (s.cal.active.rho m)) s1

/-- The pending pass becomes absent and the resolution is reported to the Weigher (R93). -/
def resolvePass (s : State) : State :=
  raiseResolution (notice { s with pass := { s.pass with pending := none } })

/-- A dump event with its cycle tag (R84, R88). -/
def takeDump (tag : Nat) (s : State) : State :=
  match s.pass.pending with
  | none => s
  | some p =>
    let s1 := truckCommit p s
    let s2 := { s1 with pass := { s1.pass with lastShown := some p } }
    resolvePass (raiseCommitReport tag s2)

/-- A boom-below event (R89, R90). -/
def takeBoomBelow (s : State) : State :=
  match s.pass.pending with
  | none => s
  | some _ => resolvePass (placeMessage .passCarriedBack (tallyRequest .carryBack s))

/-- A delete action (R91). -/
def deleteAction (s : State) : State :=
  match s.pass.pending with
  | some _ => resolvePass (placeMessage .passDiscarded s)
  | none => deletePass s

/-- Step 1 of closing discards a pending pass (R92). -/
def closingDiscard (s : State) : State :=
  match s.pass.pending with
  | some _ => resolvePass s
  | none => s

end Sys2Proof.Machine
end

