-- ==== Sys2Proof/Machine/WeigherOps.lean ====
section
/-! DEFINITION. The Weigher (R3 to R33). -/

namespace Sys2Proof.Machine

/-! ## The per-set estimate (R7 to R13) -/

/-- The lift force in N (R7). -/
def liftForce (headArea rodArea ph pr : Int) : Int := roundDiv (ph * headArea - pr * rodArea) 1000

/-- The point spacing of a record's window (R8). -/
def MachineRecord.spacing (r : MachineRecord) : Int := (r.thetaHi - r.thetaLo) / 15

/-- A curve interpolated between point `k` and the next (R9). -/
def interpolate (v : Vector Int 16) (k : Nat) (r w : Int) : Int :=
  v.getD k 0 + roundDiv ((v.getD (k + 1) 0 - v.getD k 0) * r) w

/-- The slope factor in parts per 10,000 (R11); no pitch counts as 0. -/
def slopeFactor (phi : Option Int) : Int :=
  let p := clamp (-2000) 2000 (phi.getD 0)
  10000 + p * p * 1523 / 10000000

/-- The curve point at or below an angle (R8). -/
def MachineRecord.pointBelow (r : MachineRecord) (theta : Int) : Int := (theta - r.thetaLo) / r.spacing

/-- How far an angle stands above that point (R8). -/
def MachineRecord.pastPoint (r : MachineRecord) (theta : Int) : Int :=
  (theta - r.thetaLo) - r.pointBelow theta * r.spacing

/-- The force of a curve at an angle (R8, R9). -/
def MachineRecord.forceAt (r : MachineRecord) (v : Vector Int 16) (theta : Int) : Int :=
  interpolate v (r.pointBelow theta).toNat (r.pastPoint theta) r.spacing

/-- The payload estimate of a set in kg (R7 to R13). -/
def estimate (r : MachineRecord) (c : Curves) (x : SampleSet) : Int :=
  let fe := r.forceAt c.empty x.theta
  let d := liftForce r.headArea r.rodArea x.ph x.pr - fe
  let span := r.forceAt c.loaded x.theta - fe
  clamp (-2000) 25000 (roundDiv (c.refLoad * d * slopeFactor x.phi) (span * 10000))

/-! ## The accumulator (R17) -/

/-- The lesser of an optional figure and a new one. -/
def minWith (a : Option Int) (m : Int) : Option Int :=
  match a with
  | none => some m
  | some b => some (if m < b then m else b)

/-- The greater of an optional figure and a new one. -/
def maxWith (a : Option Int) (m : Int) : Option Int :=
  match a with
  | none => some m
  | some b => some (if b < m then m else b)

/-- A contributing set with estimate `m` (R17). -/
def Accumulator.add (a : Accumulator) (m : Int) (x : SampleSet) : Accumulator :=
  let open_ := decide (a.count < 65535)
  let top := maxWith a.thMax x.theta
  let advanced := decide (a.stallRef.getD 0 + 10 ≤ top.getD 0)
  { a with
    sum := if open_ then a.sum + m else a.sum,
    count := if open_ then a.count + 1 else a.count,
    min := minWith a.min m, max := maxWith a.max m,
    disagree := if x.disagree && open_ then a.disagree + 1 else a.disagree,
    flags := a.flags.withSet x,
    thMax := top,
    stallRef := if advanced then top else a.stallRef,
    stallTimer := if advanced then some 0 else a.stallTimer }

/-- The accumulator of a lift that an entry set starts (R15). -/
def Accumulator.entered (theta : Int) : Accumulator :=
  { Accumulator.cleared with
    thMax := some theta, stallRef := some theta, inputTimer := some 0, stallTimer := some 0 }

/-- Both timers stop when the Weigher leaves IN_WINDOW (R21, R22). -/
def Accumulator.stopTimers (a : Accumulator) : Accumulator :=
  { a with inputTimer := none, stallTimer := none }

/-! ## States -/

/-- The state after a lift ends: BELOW if the last boom value is below the window start (R24, R31). -/
def belowOrAbove (lastBoom : Option Int) (thetaLo : Int) : WeigherState :=
  match lastBoom with
  | some v => if v < thetaLo then .below else .above
  | none => .above

/-- The Weigher leaves OFF on entry to RUN (R4). -/
def weigherLeavesOff (s : State) : State :=
  let st := if s.cal.active.curves.isNone then .noCal
            else belowOrAbove s.weigher.lastBoom s.cal.active.thetaLo
  let s1 := { s with weigher := { s.weigher with state := st } }
  if st = .noCal then notice s1 else s1

/-- The Weigher goes to OFF; an accumulator in progress is dropped (R4). -/
def weigherOff (s : State) : State :=
  let s1 := { s with weigher := { s.weigher with state := .off, acc := .cleared } }
  if s.weigher.state = .noCal then notice s1 else s1

/-- A lift abort (R24). -/
def abortLift (reason : AbortReason) (s : State) : State :=
  let st := belowOrAbove s.weigher.lastBoom s.cal.active.thetaLo
  let s1 := { s with weigher := { s.weigher with state := st, acc := .cleared } }
  placeMessage (.liftAborted reason) (tallyRequest .liftAborted s1)

/-- The input timer of a lift stands at 250 ms (R21). -/
def inputLostDue (s : State) : Bool := s.weigher.state == .inWindow && reached 250 s.weigher.acc.inputTimer

/-- The stall timer stands at 3.0 s (R22). -/
def stallDue (s : State) : Bool := s.weigher.state == .inWindow && reached 3000 s.weigher.acc.stallTimer

/-- A timer of a lift reaches its limit; a set taken first has restarted it, and the expiry does not happen
(R18, R21, R22, R24). -/
def lapseLift (due : Bool) (reason : AbortReason) (s : State) : State :=
  if due then abortLift reason s else s

/-! ## Completion (R26 to R30) -/

/-- The lift average (R26). -/
def Accumulator.average (a : Accumulator) : Int := roundDiv a.sum a.count

/-- The Weigher leaves IN_WINDOW on a completion, for the given state. -/
def leaveWindow (st : WeigherState) (s : State) : State :=
  { s with weigher := { s.weigher with state := st, acc := s.weigher.acc.stopTimers } }

/-- A zero lift (R27). -/
def zeroLift (s : State) : State :=
  let avg := s.weigher.acc.average
  let ok := decide (-1000 ≤ avg) && decide (avg ≤ 1000)
  let s1 := leaveWindow .above s
  let s2 := { s1 with
    weigher := { s1.weigher with zeroArmed := false, z := if ok then avg else s1.weigher.z } }
  placeMessage (if ok then .zeroSet else .zeroTooLarge) s2

/-- The weight of a completed lift (R28). -/
def liftWeight (s : State) : Int := clamp (-2000) 25000 (s.weigher.acc.average - s.weigher.z)

/-- A complete lift becomes a zero lift, an empty lift or a pass (R26 to R30). -/
def completeLift (s : State) : State :=
  if s.weigher.zeroArmed then zeroLift s
  else if liftWeight s < s.cal.active.emptyThreshold then
    tallyRequest .emptyLift (leaveWindow .above s)
  else
    takePass (liftWeight s) (passFlags s.weigher.acc s.cal.active.spreadLimit) s.weigher.acc.count
      (stampNow s) (leaveWindow .held s)

/-! ## Sample sets (R14 to R20, R25) -/

/-- A set contributes (R17). The curves are present whenever a lift is in progress (R4, R5). -/
def contribute (x : SampleSet) (s : State) : State :=
  match s.cal.active.curves with
  | some c =>
    { s with weigher := { s.weigher with
        acc := s.weigher.acc.add (estimate s.cal.active c x) x } }
  | none => s

/-- The entry set in BELOW (R15, R16). -/
def entrySet (x : SampleSet) (s : State) : State :=
  if s.cal.active.betaMin ≤ x.beta then
    let s1 := { s with weigher := { s.weigher with state := .inWindow, acc := .entered x.theta } }
    if s.cal.active.thetaHi ≤ x.theta then abortLift .short s1 else contribute x s1
  else
    { s with weigher := { s.weigher with state := .above, unracked := inc s.weigher.unracked } }

/-- A set in IN_WINDOW: the tests of R18 in their order. -/
def windowSet (x : SampleSet) (s : State) : State :=
  let s1 := { s with weigher := { s.weigher with acc := { s.weigher.acc with inputTimer := some 0 } } }
  let r := s.cal.active
  if x.theta < s.weigher.acc.thMax.getD x.theta - 50 ∨ x.theta < r.thetaLo then abortLift .reverse s1
  else if x.beta < r.betaMin - 200 then abortLift .tilt s1
  else if r.thetaHi ≤ x.theta then
    if s.weigher.acc.count < 8 then abortLift .short s1 else completeLift s1
  else contribute x s1

/-- A sample set delivered to the Weigher (R6, R14, R15, R18, R31). -/
def weigherSet (x : SampleSet) (s : State) : State :=
  let s1 := { s with weigher := { s.weigher with lastBoom := some x.theta } }
  match s.weigher.state with
  | .noCal | .off | .held => s1
  | .below => if x.theta < s.cal.active.thetaLo then s1 else entrySet x s1
  | .inWindow => windowSet x s1
  | .above =>
    if x.theta < s.cal.active.thetaLo then { s1 with weigher := { s1.weigher with state := .below } }
    else s1

/-- A boom sample passed on to the Weigher (R6, R14). -/
def weigherBoom (v : Int) (s : State) : State :=
  { s with weigher := { s.weigher with
      lastBoom := some v,
      state := if s.weigher.state = .above ∧ v < s.cal.active.thetaLo then .below
               else s.weigher.state } }

/-- A skip notice naming the channels without a source (R23). -/
def skipNotice (channels : List Channel) (s : State) : State :=
  if s.weigher.state = .inWindow ∧ Channel.boom ∈ channels then abortLift .boomLost s else s

/-- A resolution report (R31). -/
def takeResolution (s : State) : State :=
  if s.weigher.state = .held then
    { s with weigher := { s.weigher with
        state := belowOrAbove s.weigher.lastBoom s.cal.active.thetaLo, acc := .cleared } }
  else s

/-- The ZERO key in RUN (R32). -/
def zeroKey (s : State) : State :=
  match s.weigher.state with
  | .off => s
  | .noCal => placeMessage .noCalibration s
  | .below | .inWindow | .above | .held =>
    placeMessage (if s.weigher.zeroArmed then .zeroCancelled else .zeroArmed)
      { s with weigher := { s.weigher with zeroArmed := !s.weigher.zeroArmed } }

end Sys2Proof.Machine
end

