-- ==== Sys2Proof/Machine/CalibrationOps.lean ====
section
/-! DEFINITION. The Calibration Unit (R34 to R56): the range tests, SETTINGS requests, saves and captures; and the
journal events that tell it the outcome of a save. -/

namespace Sys2Proof.Machine

/-! ## The record (R34, R36) -/

/-- A value lies in a range. -/
def within (lo hi x : Int) : Bool := decide (lo ≤ x) && decide (x ≤ hi)

/-- The least span F_l[k] - F_e[k] allowed at a point (R36, R53). -/
def leastSpan : Int := 20000

/-- The points whose span is too small, lowest first (R36, R53). -/
def smallSpans (e l : Vector Int 16) : List Nat :=
  (List.range 16).filter (fun k => l.getD k 0 - e.getD k 0 < leastSpan)

/-- The test of curves against their ranges and spans (R34, R36). -/
def Curves.passes (c : Curves) : Bool := within 1000 25000 c.refLoad && (smallSpans c.empty c.loaded).isEmpty

/-- The field by field test of a restored record (R34, R36). -/
def MachineRecord.passes (r : MachineRecord) : Bool :=
  within 1000 65000 r.headArea && within 0 r.headArea r.rodArea && within (-3000) 3000 r.thetaLo
    && within (r.thetaLo + 1500) 6000 r.thetaHi && decide ((r.thetaHi - r.thetaLo) % 15 = 0)
    && within 0 9000 r.betaMin && within (-9000) 0 r.betaDump && within 1000 20000 r.volume
    && within 500 3000 r.rho1 && within 500 3000 r.rho2 && within 500 3000 r.rho3 && within 500 3000 r.rho4
    && within 1000 200000 r.defaultTarget && within 0 100 r.overTolerance
    && within 0 2000 r.emptyThreshold && within 100 5000 r.spreadLimit
    && within (-1) 1439 r.point1 && within (-1) 1439 r.point2 && within (-1) 1439 r.point3
    && r.curves.all Curves.passes

/-- The Calibration Unit takes the record the journal hands over at a start (R36). -/
def Calibration.restored (found : Option MachineRecord) : Calibration :=
  match found with
  | none => .start .default 0
  | some r => if r.passes then .start r 0 else .start .default 1

/-- The value stored at an index; 0 for an unknown index (R34, R39). -/
def MachineRecord.at (r : MachineRecord) (index : Nat) : Int :=
  match index with
  | 1 => r.headArea | 2 => r.rodArea | 3 => r.thetaLo | 4 => r.thetaHi | 5 => r.betaMin
  | 6 => r.betaDump | 7 => r.volume | 8 => r.rho1 | 9 => r.rho2 | 10 => r.rho3 | 11 => r.rho4
  | 12 => r.defaultTarget | 13 => r.overTolerance | 14 => r.emptyThreshold | 15 => r.spreadLimit
  | 16 => r.point1 | 17 => r.point2 | 18 => r.point3 | _ => 0

/-- A difference lowered to a multiple of 15 (R40). -/
def multipleOf15 (d : Int) : Int := 15 * (d / 15)

/-- The head area after a WRITE, with the rod area it may lower (R40). -/
def MachineRecord.setHeadArea (r : MachineRecord) (v : Int) : MachineRecord :=
  let a := clamp 1000 65000 v
  { r with headArea := a, rodArea := if a < r.rodArea then a else r.rodArea }

/-- The window start after a WRITE, with the window end it may move (R40). -/
def MachineRecord.setThetaLo (r : MachineRecord) (v : Int) : MachineRecord :=
  let lo := clamp (-3000) 3000 v
  { r with
    thetaLo := lo,
    thetaHi := if r.thetaHi - lo < 1500 then lo + 1500 else lo + multipleOf15 (r.thetaHi - lo) }

/-- The window end after a WRITE (R40). -/
def MachineRecord.setThetaHi (r : MachineRecord) (v : Int) : MachineRecord :=
  { r with
    thetaHi := r.thetaLo + multipleOf15 (clamp (r.thetaLo + 1500) 6000 v - r.thetaLo) }

/-- A WRITE to an index 1 to 18 (R40). -/
def MachineRecord.write (r : MachineRecord) (index : Nat) (v : Int) : MachineRecord :=
  match index with
  | 1 => r.setHeadArea v
  | 2 => { r with rodArea := clamp 0 r.headArea v }
  | 3 => r.setThetaLo v
  | 4 => r.setThetaHi v
  | 5 => { r with betaMin := clamp 0 9000 v }
  | 6 => { r with betaDump := clamp (-9000) 0 v }
  | 7 => { r with volume := clamp 1000 20000 v }
  | 8 => { r with rho1 := clamp 500 3000 v }
  | 9 => { r with rho2 := clamp 500 3000 v }
  | 10 => { r with rho3 := clamp 500 3000 v }
  | 11 => { r with rho4 := clamp 500 3000 v }
  | 12 => { r with defaultTarget := clamp 1000 200000 v }
  | 13 => { r with overTolerance := clamp 0 100 v }
  | 14 => { r with emptyThreshold := clamp 0 2000 v }
  | 15 => { r with spreadLimit := clamp 100 5000 v }
  | 16 => { r with point1 := clamp (-1) 1439 v }
  | 17 => { r with point2 := clamp (-1) 1439 v }
  | 18 => { r with point3 := clamp (-1) 1439 v }
  | _ => r

/-- A field that depends on the one written was changed (R40). -/
def dependentChanged (r r' : MachineRecord) (index : Nat) : Bool :=
  match index with
  | 1 => r'.rodArea != r.rodArea
  | 3 => r'.thetaHi != r.thetaHi
  | _ => false

/-- The answer to a WRITE that is not refused (R40). -/
def writeAnswer (r r' : MachineRecord) (index : Nat) (v : Int) : SettingsAnswer :=
  if r'.at index ≠ v ∨ dependentChanged r r' index then .clamped else .accepted

/-! ## Captures -/

/-- The bins are dropped, and with them the rest of what an armed capture holds (R46): from an arming or an abort
until the entry set there is no greatest angle and the input timer is stopped (DESIGN CHOICE, log entry 37). -/
def Calibration.dropBins (c : Calibration) : Calibration :=
  { c with bins := emptyBins, phase := .awaitBelow, thMax := none, inputTimer := none }

/-- The bins and the candidate curves are dropped (R48, R51, R55). -/
def Calibration.dropCapture (c : Calibration) : Calibration :=
  { c.dropBins with candEmpty := none, candLoaded := none }

/-- A new capture state, with its change notice (R170). -/
def setCapture (x : CaptureState) (s : State) : State :=
  notice { s with cal := { s.cal with capture := x } }

/-- The capture fails: bins and candidates are dropped (R48, R51, R53). -/
def failCapture (reason : CalFailure) (s : State) : State :=
  setCapture (.failed reason) { s with cal := s.cal.dropCapture }

/-- The record the working copy stands for; SERVICE always holds one (R37). -/
def workingRecord (s : State) : MachineRecord := s.cal.working.getD s.cal.active

/-! ## Saves (R42 to R44, R54) -/

/-- Queue a SETTINGS answer (R39, R42). -/
def answerSettings (save : Bool) (answer : SettingsAnswer) (index : Nat) (value : Int) (s : State) : State :=
  transmit .settingsAnswer (settingsAnswerData save answer index value) s

/-- A written save makes the working copy active, sets z to 0, and gives the reference entry value its M_ref
(R33, R35, R44). -/
def activateWorking (s : State) : State :=
  let r := workingRecord s
  let ref := match r.curves with
    | some c => c.refLoad
    | none => s.cal.refEntry
  notice { s with
    cal := { s.cal with active := r, refEntry := ref, save := none },
    weigher := { s.weigher with z := 0 } }

/-- The outcome of a save started from SAVING (R44). -/
def captureSaveEnded (written : Bool) (s : State) : State :=
  if written then setCapture .done (activateWorking s)
  else setCapture (.failed .save) { s with cal := { s.cal with save := none } }

/-- Entry to SAVING (R54): the candidates go into the working copy, a save is in progress, and the journal is
asked to append. A request dropped at once is told "not written" at once (R190). -/
def startSaving (s : State) : State :=
  match s.cal.candEmpty, s.cal.candLoaded with
  | some e, some l =>
    let r := { workingRecord s with curves := some { empty := e, loaded := l, refLoad := s.cal.candRef } }
    let s1 := setCapture .saving { s with
      cal := { s.cal with working := some r, save := some .capture, candEmpty := none, candLoaded := none } }
    let (j, taken) := s1.journal.append .machine r.body
    let s2 := { s1 with journal := j }
    if taken then s2 else captureSaveEnded false s2
  | _, _ => s

/-- The outcome of a save started by SETTINGS (R44); a capture waiting in CHECK goes to SAVING (R53). -/
def settingsSaveEnded (written : Bool) (s : State) : State :=
  let s1 :=
    if written then answerSettings true .saved 0 0 (activateWorking s)
    else answerSettings true .saveFailed 0 0 { s with cal := { s.cal with save := none } }
  if s1.cal.capture = .check then startSaving s1 else s1

/-- The outcome of a MACHINE append reaches the Calibration Unit (R43, R44). -/
def saveOutcome (written : Bool) (s : State) : State :=
  match s.cal.save with
  | some .settings => settingsSaveEnded written s
  | some .capture => captureSaveEnded written s
  | none => s

/-- Apply a change to the journal that may alter its state or drop its queue: a change of state raises a
change notice (R197), and a dropped MACHINE request is told "not written" (R197, R44). -/
def withJournal (f : Journal → Journal) (s : State) : State :=
  let j := f s.journal
  let s1 := { s with journal := j }
  let s2 := if j.jstate = s.journal.jstate then s1 else notice s1
  if j.jstate = .fault ∧ s.journal.jstate ≠ .fault
      ∧ s.journal.appendQueue.any (fun q => q.kind == .machine) then saveOutcome false s2
  else s2

/-- A SETTINGS SAVE that is not refused (R42). -/
def startSettingsSave (s : State) : State :=
  let s1 := { s with cal := { s.cal with save := some .settings } }
  let (j, taken) := s1.journal.append .machine (workingRecord s1).body
  let s2 := { s1 with journal := j }
  if taken then s2 else settingsSaveEnded false s2

/-! ## SETTINGS requests (R39 to R42) -/

/-- The cases in which a request that is taken is refused (R39). -/
def refusesSettings (a : SettingsAction) (s : State) : Bool :=
  s.modeCtl.mode != .service || s.cal.save.isSome ||
    match a with
    | .write index _ => index < 1 || 18 < index
    | .save => false

/-- The value a refused WRITE is answered with (R39). -/
def refusedValue (index : Nat) (s : State) : Int :=
  if s.modeCtl.mode = .service then (workingRecord s).at index else s.cal.active.at index

/-- A refused request is answered and counted (R39); a SAVE is answered with index 0 and value 0 (R42). -/
def refuseSettings (a : SettingsAction) (s : State) : State :=
  let s1 := { s with cal := { s.cal with refusedSettings := inc s.cal.refusedSettings } }
  match a with
  | .write index _ => answerSettings false .refused index (refusedValue index s) s1
  | .save => answerSettings true .refused 0 0 s1

/-- The capture states a geometry WRITE sends back to CAL_IDLE (R41). -/
def CaptureState.restartsOnGeometry (c : CaptureState) : Bool :=
  c == .emptyArmed || c == .emptyDone || c == .refEntry || c == .loadedArmed

/-- A WRITE to index 1 to 4 removes the curves and restarts a capture in progress (R41). -/
def geometryWritten (s : State) : State :=
  let s1 := { s with cal := { s.cal with
    working := s.cal.working.map (fun r => { r with curves := none }) } }
  if s.cal.capture.restartsOnGeometry then
    placeMessage .calRestart (setCapture .idle { s1 with cal := s1.cal.dropCapture })
  else s1

/-- A WRITE that is not refused (R40, R41). -/
def writeSettings (index : Nat) (v : Int) (s : State) : State :=
  let r := workingRecord s
  let r' := r.write index v
  let s1 := { s with cal := { s.cal with working := some r' } }
  let s2 := if index ≤ 4 then geometryWritten s1 else s1
  answerSettings false (writeAnswer r r' index v) index (r'.at index) s2

/-- A SETTINGS telegram (R39). -/
def takeSettings (target : Nat) (a : SettingsAction) (s : State) : State :=
  if addressed target s then
    if refusesSettings a s then refuseSettings a s
    else
      match a with
      | .write index v => writeSettings index v s
      | .save => startSettingsSave s
  else s

/-! ## Keys in SERVICE (R45, R52 to R55) -/

/-- Arm a capture, its bins empty and its phase AWAIT_BELOW (R45, R46, R52). -/
def armCapture (x : CaptureState) (s : State) : State := setCapture x { s with cal := s.cal.dropBins }

/-- ENTER in SERVICE, by the capture state (R45, R52 to R55). -/
def captureEnter (s : State) : State :=
  match s.cal.capture with
  | .idle =>
    if s.prod.available .pitch then armCapture .emptyArmed s else placeMessage .calRefusedNoPitch s
  | .emptyDone => setCapture .refEntry s
  | .refEntry =>
    if s.prod.available .pitch then
      armCapture .loadedArmed { s with cal := { s.cal with candRef := s.cal.refEntry } }
    else placeMessage .calRefusedNoPitch s
  | .emptyArmed | .loadedArmed =>
    placeMessage .calCancelled (setCapture .idle { s with cal := s.cal.dropCapture })
  | .done | .failed _ => setCapture .idle s
  | .check | .saving => s

/-- UP and DOWN in SERVICE move the reference entry value in REF_ENTRY and are ignored elsewhere (R52). -/
def captureStep (d : Int) (s : State) : State :=
  if s.cal.capture = .refEntry then
    notice { s with cal := { s.cal with refEntry := clamp 1000 25000 (s.cal.refEntry + d) } }
  else s

/-! ## Capture lifts (R47 to R53) -/

/-- An aborted capture lift (R49). -/
def abortCapture (reason : AbortReason) (s : State) : State :=
  placeMessage (.captAborted reason) (notice { s with cal := s.cal.dropBins })

/-- The curve point a set is binned at (R50). -/
def binPoint (r : MachineRecord) (theta : Int) : Nat := (roundDiv (theta - r.thetaLo) r.spacing).toNat

/-- A bin takes a lift force, unless its count has reached its limit (R46, R50). -/
def Bin.add (b : Bin) (f : Int) : Bin :=
  if b.count < 65535 then { sum := b.sum + f, count := b.count + 1 } else b

/-- A set is binned, unless its pitch is beyond 3.00 degrees (R50); it raises the capture's greatest
angle either way (R48). -/
def binSet (x : SampleSet) (s : State) : State :=
  let r := workingRecord s
  let j := binPoint r x.theta
  let f := liftForce r.headArea r.rodArea x.ph x.pr
  let level := decide ((x.phi.getD 0).natAbs ≤ 300)
  { s with cal := { s.cal with
      thMax := maxWith s.cal.thMax x.theta,
      bins :=
        if level then s.cal.bins.setIfInBounds j ((s.cal.bins.getD j { sum := 0, count := 0 }).add f)
        else s.cal.bins } }

/-- The points whose bins hold fewer than 2 sets, lowest first (R51). -/
def gaps (bins : Vector Bin 16) : List Nat :=
  (List.range 16).filter (fun k => (bins.getD k { sum := 0, count := 0 }).count < 2)

/-- Each point's mean force (R51). -/
def binMeans (bins : Vector Bin 16) : Vector Int 16 :=
  Vector.ofFn (fun i => roundDiv (bins[i]).sum (bins[i]).count)

/-- CHECK (R53): the span test, and SAVING at once unless a save is in progress. -/
def spanCheck (s : State) : State :=
  match s.cal.candEmpty, s.cal.candLoaded with
  | some e, some l =>
    match smallSpans e l with
    | k :: _ => placeMessage (.spanAtPoint k) (failCapture .span s)
    | [] => if s.cal.save.isSome then s else startSaving s
  | _, _ => s

/-- A capture lift ends at the window end (R51). -/
def endCapture (s : State) : State :=
  match gaps s.cal.bins with
  | k :: _ => placeMessage (.gapAtPoint k) (failCapture .gap s)
  | [] =>
    let v := binMeans s.cal.bins
    let dropped := s.cal.dropBins
    if s.cal.capture = .loadedArmed then
      spanCheck (setCapture .check { s with cal := { dropped with candLoaded := some v } })
    else setCapture .emptyDone { s with cal := { dropped with candEmpty := some v } }

/-- A new phase of an armed capture; line 2 shows it (R38). -/
def setCapturePhase (p : CapturePhase) (s : State) : State := notice { s with cal := { s.cal with phase := p } }

/-- The entry set of a capture lift (R47). -/
def captureEntry (x : SampleSet) (s : State) : State :=
  let r := workingRecord s
  if x.beta < r.betaMin then setCapturePhase .awaitBelow s
  else if r.thetaHi ≤ x.theta then abortCapture .short s
  else if x.phi.isNone then failCapture .noPitch s
  else
    binSet x (setCapturePhase .inCapture
      { s with cal := { s.cal with thMax := some x.theta, inputTimer := some 0 } })

/-- A set in IN_CAPTURE: the tests of R48 in their order. -/
def captureWindowSet (x : SampleSet) (s : State) : State :=
  let r := workingRecord s
  let s1 := { s with cal := { s.cal with inputTimer := some 0 } }
  if x.theta < s.cal.thMax.getD x.theta - 50 ∨ x.theta < r.thetaLo then abortCapture .reverse s1
  else if x.beta < r.betaMin - 200 then abortCapture .tilt s1
  else if r.thetaHi ≤ x.theta then endCapture s1
  else if x.phi.isNone then failCapture .noPitch s1
  else binSet x s1

/-- The capture is armed (R47). -/
def CaptureState.isArmed (c : CaptureState) : Bool := c == .emptyArmed || c == .loadedArmed

/-- The input timer of a capture lift stands at 250 ms (R49). -/
def captureLostDue (s : State) : Bool :=
  s.cal.capture.isArmed && s.cal.phase == .inCapture && reached 250 s.cal.inputTimer

/-- That timer reaches its limit; a set taken first has restarted it, and the expiry does not happen (R48,
R49). -/
def lapseCapture (s : State) : State := if captureLostDue s then abortCapture .inputLost s else s

/-- A sample set delivered to the Calibration Unit (R47). -/
def captureSet (x : SampleSet) (s : State) : State :=
  let lo := (workingRecord s).thetaLo
  match s.cal.phase with
  | .awaitBelow => if x.theta < lo then setCapturePhase .awaitEntry s else s
  | .awaitEntry => if x.theta < lo then s else captureEntry x s
  | .inCapture => captureWindowSet x s

/-! ## Modes (R37, R56) -/

/-- Entry to SERVICE: the working copy is made and the capture state is CAL_IDLE (R37). -/
def enterServiceCalibration (s : State) : State :=
  setCapture .idle { s with cal := { s.cal with working := some s.cal.active } }

/-- The part leaves SERVICE for CLOSING: any capture ends, but one in SAVING waits for its outcome (R56). -/
def closeCapture (s : State) : State :=
  if s.cal.capture = .saving then { s with cal := s.cal.dropCapture }
  else setCapture .idle { s with cal := s.cal.dropCapture }

end Sys2Proof.Machine
end

