-- ==== Sys2Proof/Machine/ClockOps.lean ====
section
/-! DEFINITION. The Shift Clock (R146 to R156). -/

namespace Sys2Proof.Machine

/-- The conditions under which a change found is raised (R151). -/
def mayRaiseChange (s : State) : Bool :=
  (s.modeCtl.mode == .join || s.modeCtl.mode == .run || s.modeCtl.mode == .service)
    && s.clock.timeSet && s.clock.lockout.isNone

/-- 60 min in ms (R154). -/
def lockoutTime : Nat := 3600000

/-- A shift change is raised and taken as one operation (R154, R156). -/
def raiseShiftChange (s : State) : State :=
  let s1 := closeShift (shiftChangeClose s)
  placeMessage (.shiftOpen s1.tally.shift)
    { s1 with clock := { s1.clock with lockout := some lockoutTime } }

/-- A change found is raised under the conditions of R151 and lost otherwise. -/
def changeFound (s : State) : State := if mayRaiseChange s then raiseShiftChange s else s

/-- The calendar advances by one second; a new minute is tested (R147, R152). -/
def secondPasses (s : State) : State :=
  let c := s.clock.calendar.nextSecond
  let s1 := { s with clock := { s.clock with
    calendar := c, secondPhase := 0,
    timeSet := if s.clock.calendar.isLast then false else s.clock.timeSet } }
  if c.second = 0 ∧ (c.minuteOfDay : Int) ∈ s.cal.active.points then changeFound s1 else s1

/-- Steps 1 and 2 of R149: the calendar is stepped when it is more than 2 s out. -/
def stepCalendar (c : Calendar) (stepped : Bool) (s : State) : State :=
  { s with clock := { s.clock with
      calendar := if stepped then c else s.clock.calendar,
      secondPhase := if stepped then 0 else s.clock.secondPhase,
      timeSet := true } }

/-- The test of a step against the points (R153), except its first condition. -/
def stepFindsChange (points : List Int) (old step : Int) : Bool :=
  decide (0 < step) && decide (step ≤ 43200) && points.any (fun p => occursBetween p old (old + step))

/-- A valid TIME telegram (R149). -/
def takeValidTime (c : Calendar) (s : State) : State :=
  let old : Int := stampNow s
  let step : Int := c.toSeconds - old
  let stepped := decide (2 < step.natAbs)
  let s1 := stepCalendar c stepped s
  let s2 := if s.clock.timeSet then s1 else correctOpenTime step s1
  if stepped && s.clock.timeSet && stepFindsChange s.cal.active.points old step then changeFound s2
  else s2

/-- The modes in which TIME telegrams are taken (R148). -/
def takesTime (m : Mode) : Bool := m == .join || m == .run || m == .service || m == .closing

/-- A TIME telegram passed on to the Shift Clock (R148). -/
def takeTime (c : Calendar) (s : State) : State :=
  if takesTime s.modeCtl.mode then
    if c.isValid then takeValidTime c s
    else { s with clock := { s.clock with refusedTimes := inc s.clock.refusedTimes } }
  else s

/-- The open shift is overdue (R155). -/
def overdue (s : State) : Bool :=
  let now : Int := stampNow s
  s.clock.timeSet && s.tally.openTimeSet && decide ((s.tally.openTime : Int) ≤ now)
    && s.cal.active.points.any (fun p => (s.tally.openTime : Int) < latestOccurrence p now)

/-- The overdue test on entry to RUN or SERVICE (R155). A TIME telegram taken in JOIN (R148) may have set
time-set before it, also after power-on (DESIGN CHOICE, log entry 47). -/
def overdueTest (s : State) : State := if overdue s then changeFound s else s

end Sys2Proof.Machine
end

