-- ==== Sys2Proof/Machine/CycleOps.lean ====
section
/-! DEFINITION. The Cycle Tracker (R125 to R145). -/

namespace Sys2Proof.Machine

/-! ## Timing (R139) -/

/-- The time recorded so far for a phase. -/
def CycleRecord.time (r : CycleRecord) (p : Phase) : Nat :=
  match p with
  | .dig => r.dig | .loaded => r.loaded | .dump => r.dump | .ret => r.ret

/-- Add a spell's count to the slot of its phase, to 65,535 at most; a slot that reaches that by addition
puts LONG in the flags (R139). -/
def CycleRecord.addSpell (r : CycleRecord) (p : Phase) (count : Nat) : CycleRecord :=
  let t := satAdd limit16 (r.time p) count
  let r1 := match p with
    | .dig => { r with dig := t }
    | .loaded => { r with loaded := t }
    | .dump => { r with dump := t }
    | .ret => { r with ret := t }
  { r1 with flags := { r1.flags with long := r1.flags.long || t == limit16 } }

/-- The present spell ends and one of a phase begins, its timer at 0 (R139). -/
def CycleTracker.change (c : CycleTracker) (p : Phase) : CycleTracker :=
  { c with phase := p, timer := 0, timerSub := 0, current := c.current.addSpell c.phase c.timer }

/-! ## Tests on the last values -/

/-- The last boom is at or above the window start. -/
def CycleTracker.boomUp (c : CycleTracker) (thetaLo : Int) : Bool := c.lastBoom.any (fun v => thetaLo ≤ v)

/-- The last boom is below the window start. -/
def CycleTracker.boomDown (c : CycleTracker) (thetaLo : Int) : Bool := c.lastBoom.any (fun v => v < thetaLo)

/-- The last bucket is at or below the dump tilt (R129). -/
def CycleTracker.tipped (c : CycleTracker) (betaDump : Int) : Bool := c.lastBucket.any (fun b => b ≤ betaDump)

/-! ## Phase changes -/

/-- Replace the tracker. -/
def setCycle (c : CycleTracker) (s : State) : State := { s with cycle := c }

/-- LOADED to DUMP, with the dump event (R129, R138). -/
def dumpNow (s : State) : State :=
  raiseDump s.cycle.current.number (setCycle (s.cycle.change .dump) s)

/-- DUMP to RETURN (R131). -/
def returnNow (s : State) : State :=
  setCycle { s.cycle.change .ret with
    latch := .none, lowSeen := s.cycle.boomDown s.cal.active.thetaLo } s

/-- RETURN back to DUMP: a shake (R132). -/
def shakeNow (s : State) : State :=
  let c := s.cycle.change .dump
  setCycle { c with current := { c.current with
    shakes := satAdd 255 c.current.shakes 1, flags := { c.current.flags with shake := true } } } s

/-- LOADED back to DIG: a re-dig (R130). -/
def redigNow (s : State) : State := tallyRequest .redig (setCycle (s.cycle.change .dig) s)

/-- Cycle numbers run from 1 to 65,535 and on to 1 (R140). -/
def nextCycle (n : Nat) : Nat := if n = 65535 then 1 else n + 1

/-- The record of a cycle as it completes (R140, steps 1 to 3). -/
def CycleTracker.completed (c : CycleTracker) (noDrive noReverse : Bool) (stamp : Nat) : CycleRecord :=
  let r := c.current.addSpell .ret c.timer
  { r with
    flags := { r.flags with
      noDrive := r.flags.noDrive || noDrive, noReverse := r.flags.noReverse || noReverse },
    total := r.dig + r.loaded + r.dump + r.ret, stamp := some stamp }

/-- A cycle completes (R140). The drive latch and low seen, meaningful in RETURN only (R125), stay as they stood
until the next entry to RETURN (DESIGN CHOICE, log entry 46). -/
def completeCycle (noDrive noReverse : Bool) (s : State) : State :=
  let r := s.cycle.completed noDrive noReverse (stampNow s)
  let s1 := tallyRequest (fun f => f.cycleComplete r.total r.flags.weighed) s
  let s2 := transmit .cycle (cycleData s.tally.shift r) s1
  setCycle { s.cycle with
    phase := .dig, timer := 0, timerSub := 0, current := .fresh (nextCycle r.number), last := some r,
    lastShift := some s.tally.shift } s2

/-- The test for completion in RETURN (R135). -/
def testCompletion (s : State) : State :=
  if s.cycle.boomDown s.cal.active.thetaLo then
    if s.cycle.latch = .met then completeCycle false false s
    else if s.prod.available .drive then s
    else completeCycle true false s
  else s

/-! ## Values (R127) -/

/-- The phase tests of a boom value (R128 to R136). -/
def boomPhase (v : Int) (s : State) : State :=
  let r := s.cal.active
  match s.cycle.phase with
  | .dig => if r.thetaLo ≤ v then setCycle (s.cycle.change .loaded) s else s
  | .loaded =>
    if v < r.thetaLo then redigNow s
    else if s.cycle.tipped r.betaDump then dumpNow s else s
  | .dump => s
  | .ret =>
    if v < r.thetaLo then testCompletion (setCycle { s.cycle with lowSeen := true } s)
    else if s.cycle.lowSeen then
      let s1 := completeCycle false true s
      setCycle (s1.cycle.change .loaded) s1
    else s

/-- A boom value (R127, R137). -/
def cycleBoom (v : Int) (s : State) : State :=
  let lo := s.cal.active.thetaLo
  let crossing := decide (v < lo) && s.cycle.boomUp lo
  let s1 := setCycle { s.cycle with lastBoom := some v } s
  if s.cycle.hold then s1
  else boomPhase v (if crossing then raiseBoomBelow s1 else s1)

/-- A bucket value (R127, R129, R131, R132). -/
def cycleBucket (b : Int) (s : State) : State :=
  let r := s.cal.active
  let s1 := setCycle { s.cycle with lastBucket := some b } s
  if s.cycle.hold then s1
  else
    match s.cycle.phase with
    | .dig => s1
    | .loaded => if b ≤ r.betaDump && s.cycle.boomUp r.thetaLo then dumpNow s1 else s1
    | .dump => if r.betaDump + 200 < b then returnNow s1 else s1
    | .ret =>
      if b ≤ r.betaDump && s.cycle.boomUp r.thetaLo && !s.cycle.lowSeen then shakeNow s1 else s1

/-- The drive latch after a direction (R134), given by its code of R219. -/
def DriveLatch.move (l : DriveLatch) (direction : Int) : DriveLatch :=
  match l with
  | .none => if direction = 2 then .reverseSeen else .none
  | .reverseSeen => if direction = 1 then .met else .reverseSeen
  | .met => .met

/-- A DRIVE value (R127, R134, R135). -/
def cycleDrive (direction : Int) (s : State) : State :=
  if s.cycle.hold then s
  else
    match s.cycle.phase with
    | .ret => testCompletion (setCycle { s.cycle with latch := s.cycle.latch.move direction } s)
    | .dig | .loaded | .dump => s

/-! ## Reports and limits -/

/-- A cycle record with WEIGHED in its flags. -/
def CycleRecord.markWeighed (r : CycleRecord) : CycleRecord :=
  { r with flags := { r.flags with weighed := true } }

/-- A commit report for the last cycle (R141, lines 2 and 3). -/
def lateReport (r : CycleRecord) (s : State) : State :=
  let s1 := notice (setCycle { s.cycle with last := some r.markWeighed } s)
  if s.cycle.lastShift = some s.tally.shift ∧ r.flags.weighed = false then
    tallyRequest .weighedLate s1
  else s1

/-- A commit report (R141). -/
def takeCommitReport (tag : Nat) (s : State) : State :=
  if tag = s.cycle.current.number then
    setCycle { s.cycle with current := s.cycle.current.markWeighed } s
  else
    match s.cycle.last with
    | some r => if tag = r.number then lateReport r s else s
    | none => s

/-- The phase timer reaches its limit (R139). -/
def phaseTimerAtLimit (s : State) : State :=
  setCycle { s.cycle with
    timer := limit16,
    current := { s.cycle.current with flags := { s.cycle.current.flags with long := true } } } s

/-- Entry to RUN clears hold and starts the timer from 0 in DIG (R126). -/
def releaseHold (s : State) : State := setCycle { s.cycle with hold := false, timer := 0, timerSub := 0 } s

end Sys2Proof.Machine
end

