-- ==== Sys2Proof/Machine/InputOps.lean ====
section
/-! DEFINITION. What becomes of a dispatched telegram: the Producer Table's judgement, the sample set, the values
passed on, and the owners of the other kinds (R59 to R78, R201, R208). -/

namespace Sys2Proof.Machine

/-- The modes in which the Producer Table runs (R59). -/
def tableRuns (m : Mode) : Bool := m == .join || m == .run || m == .service || m == .closing

/-- Replace the Producer Table; a change of a channel state or of the degraded indication raises a change
notice (R170). -/
def setProducers (p : ProducerTable) (s : State) : State :=
  let s1 := { s with prod := p }
  if p.channelStates = s.prod.channelStates ∧ p.degraded = s.prod.degraded then s1 else notice s1

/-- A set is delivered by the mode of the part (R75). -/
def deliverSet (x : SampleSet) (s : State) : State :=
  match s.modeCtl.mode with
  | .join | .run | .closing => weigherSet x s
  | .service => if s.cal.capture.isArmed then captureSet x s else s
  | .start | .standby => s

/-- A HEAD value from the chosen source triggers a set, which is skipped, rejected or delivered
(R70 to R75). -/
def assembleSet (s : State) : State :=
  let p := s.prod
  if p.missing ≠ [] then skipNotice p.missing { s with prod := { p with skipped := inc p.skipped } }
  else if p.sourceOver .head || p.sourceOver .rod then
    { s with prod := { p with rejected := inc p.rejected } }
  else deliverSet p.sampleSet { s with prod := p.countDisagreements }

/-- An accepted sample or DRIVE telegram whose slot is the chosen source of its channel is used
(R70, R76). A BOOM value goes to the Weigher and to the Cycle Tracker. -/
def useSample (ch : Channel) (id : SlotId) (s : State) : State :=
  if s.prod.source ch = some id then
    let v := (s.prod.sourceValue ch).getD 0
    match ch with
    | .head => assembleSet s
    | .boom => cycleBoom v (weigherBoom v s)
    | .bucket => cycleBucket v s
    | .drive => cycleDrive v s
    | .rod | .pitch | .time | .truck => s
  else s

/-- An accepted TIME telegram is passed on from slot 1, and from slot 2 while slot 1 is SILENT (R67). -/
def useTime (id : SlotId) (d : List Word) (s : State) : State :=
  if id = .primary ∨ (s.prod.slot .time .primary).state = .silent then takeTime (timeFields d) s else s

/-- An accepted ANNOUNCE or DEPART telegram is passed to the Truck List (R68). -/
def useNotice (k : Kind) (d : List Word) (s : State) : State :=
  if k = .depart then depart (departFields d) s
  else announce (announceFields d).1 (announceFields d).2 s

/-- What an accepted telegram of a channel brings about. -/
def useAccepted (ch : Channel) (id : SlotId) (t : RxTelegram) (s : State) : State :=
  match ch with
  | .time => useTime id t.data s
  | .truck => useNotice t.kind t.data s
  | .head | .rod | .boom | .bucket | .pitch | .drive => useSample ch id s

/-- The Producer Table takes a dispatched telegram (R59 to R64, R208). -/
def takeChannelTelegram (ch : Channel) (t : RxTelegram) (s : State) : State :=
  let (p, accepted) := (s.prod.hear t.sender).take ch t.sender t.seq t.data
  let s1 := setProducers p s
  match accepted with
  | some id => useAccepted ch id t s1
  | none => s1

/-- The modes in which a JOURNAL_READ is taken (R201). -/
def takesReads (m : Mode) : Bool := m == .run || m == .service || m == .closing

/-- A JOURNAL_READ (R201, R202). -/
def takeJournalRead (target seq : Nat) (s : State) : State :=
  if addressed target s && takesReads s.modeCtl.mode then
    if s.journal.drainAsked then
      { s with journal := { s.journal with lostReads := inc s.journal.lostReads } }
    else { s with journal := s.journal.requestRead seq }
  else s

/-- The owner of a kind that feeds no channel takes the telegram (R208). -/
def takeByOwner (t : RxTelegram) (s : State) : State :=
  match t.kind with
  | .settings => takeSettings (settingsFields t.data).1 (settingsFields t.data).2 s
  | .journalRead => takeJournalRead (journalReadFields t.data).1 (journalReadFields t.data).2 s
  | _ => s

/-- A dispatched telegram reaches its receivers (R208). -/
def takeTelegram (t : RxTelegram) (s : State) : State :=
  match t.kind.channel with
  | some ch => takeChannelTelegram ch t s
  | none => takeByOwner t (setProducers (s.prod.hear t.sender) s)

/-- The silence of a slot is due: an ACTIVE or FAULTY slot's link age stands at 1,000 ms (R60). -/
def silenceDue (ch : Channel) (id : SlotId) (s : State) : Bool :=
  let x := s.prod.slot ch id
  tableRuns s.modeCtl.mode && (x.state == .active || x.state == .faulty) && reached 1000 x.linkAge

/-- The link age of a slot reaches its limit; a telegram taken first has restarted it, and the expiry does not
happen (R60). -/
def silenceSlot (ch : Channel) (id : SlotId) (s : State) : State :=
  if silenceDue ch id s then
    setProducers (s.prod.setSlot ch id (s.prod.slot ch id).fallSilent) s
  else s

/-- The value age of a slot reaches the fresh time of its channel (R65). -/
def staleSlot (ch : Channel) (id : SlotId) (s : State) : State :=
  let x := s.prod.slot ch id
  if tableRuns s.modeCtl.mode && x.isFresh ch then
    setProducers (s.prod.setSlot ch id { x with valueAge := some (freshTime ch) }) s
  else s

end Sys2Proof.Machine
end

