-- ==== Sys2Proof/Machine/LineOps.lean ====
section
/-! DEFINITION. The Line Interface (R203 to R218): reception, access, transmission, CLASH, HEARTBEAT. -/

namespace Sys2Proof.Machine

/-! ## Reception (R203, R206, R207) -/

/-- A character is framed by a dominant start bit and a recessive stop bit (R203). -/
def charFramed (c : WireChar) : Bool := !c.getLsbD 9 && c.getLsbD 0

/-- The byte a character carries (R203). -/
def charByte (c : WireChar) : Byte := c.extractLsb' 1 8

/-- The words of bytes, high byte first (R203); an odd last byte is no word. -/
def wordsOfBytes : List Byte → List Word
  | hi :: lo :: rest => (hi ++ lo) :: wordsOfBytes rest
  | _ => []

/-- The words read before the first framing error or the end. -/
def wordsRead (chars : List WireChar) : List Word :=
  wordsOfBytes ((chars.takeWhile charFramed).map charByte)

/-- The characters that carry words on the wire (R203). -/
def wireOfWord (w : Word) : List WireChar :=
  [0#1 ++ w.extractLsb' 8 8 ++ 1#1, 0#1 ++ w.extractLsb' 0 8 ++ 1#1]

/-- The characters of a whole telegram. -/
def wireOf (ws : List Word) : List WireChar := ws.flatMap wireOfWord

/-- The outcome of the receive checks (R206). -/
inductive Reception where
  | good (t : RxTelegram)
  | error (k : Kind)
  | unknown
deriving DecidableEq, Repr

/-- The telegram passes the framing, length, sender and CRC checks for its kind (R206). -/
def passesChecks (k : Kind) (ws : List Word) : Bool :=
  let n := headerLength (wordAt ws 1)
  let sender := headerSender (wordAt ws 0)
  decide (n + 3 ≤ ws.length) && decide (n ≤ 16) && k.allowsLength n && sender != 0 && sender != 31
    && wordAt ws (n + 2) == crc (ws.take (n + 2))

/-- Check a telegram as read (R206): fewer words than its header calls for is a framing error, and a
header not read whole or of an unknown kind counts among the unknown kinds. -/
def checkTelegram (chars : List WireChar) : Reception :=
  let ws := wordsRead chars
  if ws.length < 2 then .unknown
  else
    match Kind.ofCode (headerKindCode (wordAt ws 0)) with
    | none => .unknown
    | some k =>
      if passesChecks k ws then
        .good { sender := headerSender (wordAt ws 0), kind := k, seq := headerSeq (wordAt ws 1),
                data := (ws.drop 2).take (headerLength (wordAt ws 1)) }
      else .error k

/-- The telegram read is the one the part is sending (R206, R209). It is known as the part's own while access is SEND
only, so at the end of its CRC word TELEGRAM_RECEIVED comes before TRANSMIT_SUCCESS (DESIGN CHOICE, log entry 25). -/
def isOwnTransmission (chars : List WireChar) (s : State) : Bool :=
  s.line.access == .send
    && s.line.queue.any (fun t => t.sending && wordsRead chars == t.words s.modeCtl.station)

/-- CLASH is set (R213). -/
def setClash (s : State) : State :=
  if s.line.clash then s
  else notice { s with line := { s.line with
    clash := true, access := .silent, queue := [], heartbeat := none } }

/-- A good telegram enters the inbox, or is lost to overrun (R207). -/
def enterInbox (t : RxTelegram) (s : State) : State :=
  if s.line.inbox.length < 4 then { s with line := { s.line with inbox := s.line.inbox ++ [t] } }
  else { s with line := { s.line with overrun := inc s.line.overrun } }

/-- A telegram ends on the line (R206, R207, R209). -/
def receive (chars : List WireChar) (s : State) : State :=
  if s.line.listening && !isOwnTransmission chars s then
    match checkTelegram chars with
    | .unknown => { s with line := { s.line with unknownKinds := inc s.line.unknownKinds } }
    | .error k =>
      { s with line := { s.line with
          receiveErrors := s.line.receiveErrors.set k.idx (inc s.line.receiveErrors[k.idx]) } }
    | .good t => if t.sender = s.modeCtl.station then setClash s else enterInbox t s
  else s

/-- Dispatch takes the oldest telegram of the inbox (R207, R208). -/
def dispatchOldest (s : State) : State :=
  match s.line.inbox with
  | [] => s
  | t :: rest => takeTelegram t { s with line := { s.line with inbox := rest } }

/-! ## Access (R210, R211) -/

/-- The deferral of a telegram in slots (R210). -/
def deferral (t : TxTelegram) (station : Nat) : Nat := t.kind.cls * 32 + station

/-- The front telegram is being sent. -/
def markFront : List TxTelegram → List TxTelegram
  | [] => []
  | t :: rest => { t with sending := true } :: rest

/-- A slot ends without carrier in DEFER (R210, R211). -/
def slotEnds (s : State) : State :=
  let n := min 126 (s.line.slotCount + 1)
  let starts := match s.line.queue with
    | t :: _ => decide (deferral t s.modeCtl.station ≤ n)
    | [] => false
  { s with line := { s.line with
      slotCount := n,
      access := if starts then .send else .defer,
      queue := if starts then markFront s.line.queue else s.line.queue } }

/-! ## The end of a transmission (R212) -/

/-- A success: the telegram leaves the queue (R212). -/
def transmissionDone (s : State) : State :=
  { s with line := { s.line with
      queue := s.line.queue.filter (fun t => !t.sending), collisions := 0, access := .waitIdle } }

/-- A telegram whose attempt has failed: dropped at the fourth (R212). -/
def TxTelegram.failed (t : TxTelegram) : Option TxTelegram :=
  if t.sending then
    if 4 ≤ t.attempts + 1 then none
    else some { t with attempts := t.attempts + 1, sending := false }
  else some t

/-- A collision (R212): the attempt counted is that of the telegram being sent (log entry 20). -/
def collide (s : State) : State :=
  let l := s.line
  let drops := l.queue.any (fun t => t.sending && decide (4 ≤ t.attempts + 1))
  let n := l.collisions + 1
  let s1 := { s with line := { l with
    access := .waitIdle, attempts := inc l.attempts, collisions := min 3 n,
    queue := l.queue.filterMap TxTelegram.failed,
    dropped := if drops then inc l.dropped else l.dropped } }
  if 3 ≤ n then setClash s1 else s1

/-! ## HEARTBEAT (R216, R217) -/

/-- The receive-error, overrun and dropped counters, which the STATUS page sums (R183). -/
def receiveAndDropCounters (l : LineInterface) : List Nat := l.receiveErrors.toList ++ [l.overrun, l.dropped]

/-- The line error sum (R217). -/
def lineSum (l : LineInterface) : Nat :=
  satSum (receiveAndDropCounters l ++ [l.unknownKinds, l.attempts])

/-- The inputs error sum (R217). -/
def inputsSum (p : ProducerTable) : Nat :=
  satSum (p.slots.map (fun x => x.lost + x.duplicate + x.disagree)
    ++ allChannels.map (fun ch => (p.chan ch).extra) ++ [p.skipped, p.rejected])

/-- The operation error sum (R217). -/
def operationSum (s : State) : Nat :=
  satSum [s.weigher.unracked, s.cal.recordRejections, s.cal.refusedSettings, s.clock.refusedTimes,
    s.trucks.refused, s.trucks.unknown]

/-- The journal error sum (R217). -/
def journalSum (j : Journal) : Nat :=
  satSum [j.lostAppends, j.lostReads, j.programFailures, j.eraseFailures, j.torn, j.bad, j.closed]

/-- The eight channel states, two bits each, HEAD highest (R219). -/
def channelStateWord (p : ProducerTable) : Word :=
  p.channelStates.foldl (fun w c => (w <<< 2) ||| natWord c.code) 0#16

/-- A HEARTBEAT's data (R217, R219). -/
def heartbeatData (s : State) : List Word :=
  [place s.modeCtl.mode.code 13 ||| flagBit s.clock.timeSet 8 ||| flagBit s.cal.active.curves.isSome 7
     ||| flagBit s.prod.degraded 6 ||| place s.journal.jstate.code 0,
   channelStateWord s.prod, natWord s.tally.shift,
   natWord (lineSum s.line), natWord (inputsSum s.prod),
   natWord (operationSum s), natWord (journalSum s.journal)]

/-- A HEARTBEAT waiting in the queue, not being sent (R216). -/
def TxTelegram.waitingHeartbeat (t : TxTelegram) : Bool := t.kind == .heartbeat && !t.sending

/-- Replace the contents of the first waiting HEARTBEAT (R216), where two wait too (DESIGN CHOICE, log entry
49). -/
def replaceHeartbeat (data : List Word) : List TxTelegram → List TxTelegram
  | [] => []
  | t :: rest =>
    if t.waitingHeartbeat then { t with data := data } :: rest else t :: replaceHeartbeat data rest

/-- A HEARTBEAT is composed, and replaces a waiting one or is handed over; the timer restarts (R216). The
HEARTBEAT of the entry to RUN or SERVICE is replaced like one of an expiry (DESIGN CHOICE, log entry 49). -/
def beat (s : State) : State :=
  let d := heartbeatData s
  let s1 := { s with line := { s.line with heartbeat := some 1000 } }
  if s.line.queue.any TxTelegram.waitingHeartbeat then
    { s1 with line := { s1.line with queue := replaceHeartbeat d s1.line.queue } }
  else transmit .heartbeat d s1

/-- Entry to RUN or SERVICE: access leaves SILENT and HEARTBEAT starts, unless LISTEN_ONLY or CLASH is set
(R210, R216). -/
def startAccess (s : State) : State :=
  if muted s then s else beat { s with line := { s.line with access := .waitIdle } }

end Sys2Proof.Machine
end

