-- ==== Sys2Proof/Machine/DisplayText.lean ====
section
/-! DEFINITION. How figures and texts are put into the columns of the display (R179, R185), the texts of the
messages, and the screens and pages (R38, R178 to R183). Where the manual gives a text followed by a figure
without columns, one space stands between them (log entry 22). -/

namespace Sys2Proof.Machine

/-! ## Characters, fields and figures (R167, R185) -/

/-- The codes of a text's characters (R167). -/
def txt (t : String) : List Byte := t.toList.map (fun c => BitVec.ofNat 8 c.toNat)

/-- The code of a space. -/
def space : Byte := 32#8

/-- A run of spaces. -/
def spaces (n : Nat) : List Byte := List.replicate n space

/-- A text set from the first column of `n`, cut after the last (R179, R183). -/
def padRight (n : Nat) (l : List Byte) : List Byte := (l ++ spaces n).take n

/-- A text right-aligned in `n` columns; one too wide leaves "*" in each (R185). -/
def padLeft (n : Nat) (l : List Byte) : List Byte :=
  if l.length ≤ n then spaces (n - l.length) ++ l else List.replicate n 42#8

/-- The code of a digit. -/
def digit (n : Nat) : Byte := BitVec.ofNat 8 (48 + n % 10)

/-- The decimal digits of a number; `fuel` bounds how many. -/
def digitsFuel : Nat → Nat → List Byte
  | 0, _ => []
  | fuel + 1, n => if n < 10 then [digit n] else digitsFuel fuel (n / 10) ++ [digit n]

/-- A whole number in decimal without separators (R185); no figure of the part has more than 20 digits. -/
def decimal (n : Nat) : List Byte := digitsFuel 20 n

/-- A number of tenths with one decimal (R185). -/
def tenths (n : Nat) : List Byte := decimal (n / 10) ++ txt "." ++ [digit n]

/-- A mass in tonnes with one decimal (R185). -/
def tonnes (kg : Int) : List Byte := tenths (roundDiv kg 100).toNat

/-- A figure in the `n` columns of its number part: right-aligned, or "-" in each where absent (R185). -/
def figure (n : Nat) (f : Option (List Byte)) : List Byte :=
  match f with
  | some l => padLeft n l
  | none => List.replicate n 45#8

/-- Columns in a line (R167). -/
def columns : Nat := 20

/-- A line of text from column 1. -/
def lineOf (l : List Byte) : List Byte := padRight columns l

/-! ## Messages (R179) -/

/-- The last word of a lift abort's text (R24). -/
def AbortReason.text (r : AbortReason) : String :=
  match r with
  | .reverse => "REVERSE" | .tilt => "TILT" | .inputLost => "INPUT" | .stall => "STALL"
  | .boomLost => "BOOM" | .short => "SHORT"

/-- The text of a message, as the chapter of its owner gives it (R179). -/
def Message.text (m : Message) : List Byte :=
  match m with
  | .liftAborted r => txt "LIFT ABORTED " ++ txt r.text
  | .zeroSet => txt "ZERO SET"
  | .zeroTooLarge => txt "ZERO TOO LARGE"
  | .zeroArmed => txt "ZERO ARMED"
  | .zeroCancelled => txt "ZERO CANCELLED"
  | .noCalibration => txt "NO CALIBRATION"
  | .calRestart => txt "CAL RESTART"
  | .calRefusedNoPitch => txt "CAL REFUSED NO PITCH"
  | .captAborted r => txt "CAPT ABORTED " ++ txt r.text
  | .gapAtPoint k => txt "GAP AT POINT " ++ decimal k
  | .spanAtPoint k => txt "SPAN AT POINT " ++ decimal k
  | .calCancelled => txt "CAL CANCELLED"
  | .material m rho => txt "MATERIAL " ++ decimal m.number ++ [space] ++ decimal rho.toNat
  | .passCarriedBack => txt "PASS CARRIED BACK"
  | .passDiscarded => txt "PASS DISCARDED"
  | .passLimitClosed => txt "PASS LIMIT - CLOSED"
  | .truckDeparted => txt "TRUCK DEPARTED"
  | .truckClosed => txt "TRUCK CLOSED"
  | .truckListFull => txt "TRUCK LIST FULL"
  | .truckToEnd => txt "TRUCK TO END"
  | .truckRemoved => txt "TRUCK REMOVED"
  | .noPasses => txt "NO PASSES"
  | .noTruck => txt "NO TRUCK"
  | .passDeleted n => txt "PASS " ++ decimal n ++ txt " DELETED"
  | .nothingToDelete => txt "NOTHING TO DELETE"
  | .shiftOpen n => txt "SHIFT " ++ decimal n ++ txt " OPEN"

/-! ## Pages (R180 to R183) -/

/-- Two lines of the display. -/
structure Lines where
  line1 : List Byte
  line2 : List Byte
deriving DecidableEq, Repr

/-- The identity shown for a head (R180). -/
def identityText (i : Option (BitVec 32)) : List Byte :=
  match i with
  | some v => decimal v.toNat
  | none => txt "----"

/-- The number of waiting trucks behind the head (R180). -/
def waitingText (n : Nat) : List Byte := if n = 0 then spaces 2 else txt "+" ++ decimal n

/-- Columns 13 to 20 of the LOAD page's second line (R180). -/
def adviceText (a : Advice) (remaining : Int) : List Byte :=
  match a with
  | .full => padRight 8 (txt "FULL")
  | .lastPass | .none => txt "R" ++ padLeft 7 (decimal remaining.toNat)

/-- The LOAD page (R180). -/
def loadPage (s : State) : Lines :=
  match s.trucks.entries with
  | [] => { line1 := lineOf (txt "NO TRUCK"), line2 := spaces columns }
  | e :: rest =>
    { line1 := padRight 10 (identityText e.identity) ++ [space] ++ padRight 4 (waitingText rest.length)
        ++ padLeft 5 (decimal e.passes.length ++ txt "/15"),
      line2 := padLeft 11 (tonnes e.total ++ txt "/" ++ tonnes e.target) ++ [space]
        ++ adviceText (adviceFor (ratedLoad s) e) (e.target - e.total) }

/-- The bucket figure (R99): the pass shown, and whether it is pending. -/
def bucketFigure (p : PassUnit) : Option (PassRecord × Bool) :=
  match p.pending with
  | some x => some (x, true)
  | none => p.lastShown.map (fun x => (x, false))

/-- The BUCKET page (R181). -/
def bucketPage (s : State) : Lines :=
  match bucketFigure s.pass with
  | none => { line1 := lineOf (txt "NO PASS"), line2 := spaces columns }
  | some (p, isPending) =>
    { line1 := txt (if isPending then "PEND" else "LAST") ++ [space] ++ padLeft 4 (tonnes p.weight)
        ++ txt "T" ++ [space] ++ padLeft 5 (tenths p.fill.toNat) ++ txt "%" ++ spaces 2
        ++ (if p.flags.isEmpty then [space] else txt "?"),
      line2 := txt "MAT" ++ padLeft 2 (decimal p.material.number) ++ spaces 9 ++ txt "N"
        ++ padLeft 5 (decimal p.samples) }

/-- The SHIFT page (R182). -/
def shiftPage (s : State) : Lines :=
  { line1 := txt "C" ++ padLeft 5 (decimal s.tally.cycles) ++ [space]
      ++ txt "L" ++ figure 5 (s.cycle.last.map (fun r => tenths r.total)) ++ [space]
      ++ txt "A" ++ figure 5 ((averageCycle s.tally).map tenths),
    line2 := txt "K" ++ padLeft 3 (decimal s.tally.trucks) ++ [space]
      ++ padLeft 7 (tonnes s.tally.payload) ++ txt "T" ++ [space]
      ++ figure 6 ((shiftRate s).map tenths) }

/-- A channel's letter (R183). -/
def channelLetter (ch : Channel) : String :=
  match ch with
  | .head => "H" | .rod => "R" | .boom => "B" | .bucket => "U" | .pitch => "P" | .drive => "D"
  | .time => "C" | .truck => "T"

/-- A channel state's code (R183). -/
def ChannelState.sign (x : ChannelState) : String :=
  match x with
  | .primary => "1" | .secondary => "2" | .unavailable => "X" | .notLearned => "-"

/-- Line 1 of the STATUS page (R183). -/
def statusLine1 (p : ProducerTable) : List Byte :=
  allChannels.flatMap (fun ch => txt (channelLetter ch) ++ txt (p.channelState ch).sign) ++ [space]
    ++ padRight 3 (if p.degraded then txt "DEG" else [])

/-- An item of two names, with their figures (R183). -/
def twoFigures (name1 : String) (n1 : Nat) (name2 : String) (n2 : Nat) : List Byte :=
  padRight 4 (txt name1) ++ padLeft 6 (decimal n1) ++ padRight 4 (txt name2) ++ padLeft 6 (decimal n2)

/-- A sum over the sixteen slots (R183). -/
def slotSum (f : Slot → Nat) (p : ProducerTable) : Nat := satSum (p.slots.map f)

/-- The sum of the extra counters (R183). -/
def extraSum (p : ProducerTable) : Nat := satSum (allChannels.map (fun ch => (p.chan ch).extra))

/-- The name of a journal state (R183). -/
def JournalState.name (j : JournalState) : String :=
  match j with
  | .ok => "OK" | .degraded => "DEGRADED" | .fault => "FAULT"

/-- A line rate in kbit/s (R203). -/
def LineRate.kbits (r : LineRate) : Nat :=
  match r with
  | .kbit125 => 125 | .kbit250 => 250 | .kbit500 => 500 | .kbit1000 => 1000

/-- Status item 7 (R183, R223). -/
def stationItem (m : ModeCtl) : List Byte :=
  if m.listenOnly then lineOf (txt "LISTEN ONLY")
  else padRight 4 (txt "STN") ++ padLeft 6 (decimal m.station) ++ spaces 4
    ++ padLeft 6 (decimal m.rate.kbits)

/-- The status item in view (R183). -/
def statusItemLine (s : State) : List Byte :=
  match s.display.statusItem with
  | 1 => padRight 14 (txt "LINE ERR") ++ padLeft 6 (decimal (satSum (receiveAndDropCounters s.line)))
  | 2 => padRight 8 (txt "JOURNAL") ++ padRight 12 (txt s.journal.jstate.name)
  | 3 => twoFigures "LST" (slotSum (·.lost) s.prod) "DUP" (slotSum (·.duplicate) s.prod)
  | 4 => twoFigures "DIS" (slotSum (·.disagree) s.prod) "XTR" (extraSum s.prod)
  | 5 => twoFigures "SKIP" s.prod.skipped "REJ" s.prod.rejected
  | 6 => twoFigures "REF" s.trucks.refused "UNK" s.trucks.unknown
  | _ => stationItem s.modeCtl

/-- The page in view (R180 to R183). -/
def pageLines (s : State) : Lines :=
  match s.display.page with
  | .load => loadPage s
  | .bucket => bucketPage s
  | .shift => shiftPage s
  | .status => { line1 := statusLine1 s.prod, line2 := statusItemLine s }

/-! ## SERVICE and the screens of the other modes (R38, R178) -/

/-- The last word of a failed capture's text (R38). -/
def CalFailure.text (r : CalFailure) : String :=
  match r with
  | .gap => "GAP" | .span => "SPAN" | .noPitch => "NO PITCH" | .save => "SAVE"

/-- The text of the capture state (R38). -/
def captureText (c : Calibration) : List Byte :=
  match c.capture with
  | .idle => txt "CAL READY"
  | .emptyArmed => txt "LIFT EMPTY BUCKET"
  | .emptyDone => txt "EMPTY OK - ENTER"
  | .refEntry => txt "REF LOAD " ++ decimal c.refEntry.toNat ++ txt " KG"
  | .loadedArmed => txt "LIFT REF LOAD"
  | .check => txt "CHECKING"
  | .saving => txt "SAVING"
  | .done => txt "CAL SAVED"
  | .failed r => txt "CAL FAILED " ++ txt r.text

/-- The mark of the capture phase (R38). -/
def CapturePhase.sign (p : CapturePhase) : String :=
  match p with
  | .awaitBelow => "-" | .awaitEntry => "^" | .inCapture => "*"

/-- Line 2 in SERVICE (R38). -/
def serviceLine (c : Calibration) : List Byte :=
  if c.capture.isArmed then padRight 19 (captureText c) ++ txt c.phase.sign
  else lineOf (captureText c)

/-- The two lines of the present mode, without the message (R168, R178). STANDBY sends the blank frame
alone (R172). -/
def screenLines (s : State) : Lines :=
  match s.modeCtl.mode with
  | .start => { line1 := lineOf (txt "LEKCORA 418"), line2 := lineOf (txt "STARTING") }
  | .join =>
    { line1 := lineOf (txt "LEKCORA 418"),
      line2 := lineOf (if s.modeCtl.listenOnly then txt "JOIN LISTEN ONLY"
                       else txt "JOIN STATION " ++ decimal s.modeCtl.station) }
  | .run => pageLines s
  | .service => { pageLines s with line2 := serviceLine s.cal }
  | .closing => { line1 := lineOf (txt "CLOSING"), line2 := lineOf (txt "SAVING SHIFT") }
  | .standby => { line1 := spaces columns, line2 := spaces columns }

end Sys2Proof.Machine
end

