-- ==== Sys2Proof/Machine/DisplayOps.lean ====
section
/-! DEFINITION. The Display Controller (R166 to R185): the frame's image, frames, key reads and key actions. -/

namespace Sys2Proof.Machine

/-! ## The frame (R167, R168, R179, R181, R184) -/

/-- Line 2 with the message over it (R179). -/
def shownLine2 (s : State) : List Byte :=
  match s.display.message with
  | some m => lineOf m.text
  | none => (screenLines s).line2

/-- Lit bar segments of a fill (R181). -/
def barSegments (fill : Int) : Nat := min 20 (fill / 50).toNat

/-- The bar and its mode (R181). -/
def barBytes (s : State) : Nat × Bool :=
  match bucketFigure s.pass with
  | some (p, _) => (barSegments p.fill, decide (1100 < p.fill))
  | none => (0, false)

/-- The head carries OVERLOAD (R120). -/
def overloadLamp (s : State) : Bool :=
  match s.trucks.entries with
  | e :: _ => e.flags.overload
  | [] => false

/-- The head's advice is LAST PASS (R120). -/
def lastPassLamp (s : State) : Bool :=
  match s.trucks.entries with
  | e :: _ => adviceFor (ratedLoad s) e == .lastPass
  | [] => false

/-- The lamps (R167, R184). -/
def lampByte (s : State) : Byte :=
  let bit := fun (b : Bool) (n : Nat) => if b then (1#8 <<< n) else 0#8
  bit (overloadLamp s) 0 ||| bit (lastPassLamp s) 1 ||| bit s.prod.degraded 2
    ||| bit (s.weigher.state == .noCal) 3 ||| bit (s.journal.jstate == .fault) 4 ||| bit s.line.clash 5

/-- The 43 bytes of a frame composed now (R167, R168). -/
def composeFrame (s : State) : List Byte :=
  (screenLines s).line1 ++ shownLine2 s
    ++ [BitVec.ofNat 8 (barBytes s).1, lampByte s, if (barBytes s).2 then 1#8 else 0#8]

/-- The blank frame of STANDBY (R172). -/
def blankImage : List Byte := spaces 40 ++ [0#8, 0#8, 0#8]

/-- The time since the last frame start makes a frame due (R169). -/
def Display.due (d : Display) : Bool :=
  match d.sinceFrame with
  | none => true
  | some t => 100 ≤ t || (d.stale && 20 ≤ t)

/-- A due frame finds the port FREE (R169); in STANDBY no frame but the blank one is made (R172). -/
def frameDue (s : State) : Bool := s.modeCtl.mode != .standby && s.display.port == .free && s.display.due

/-- The blank frame of STANDBY can be sent: the port is FREE and the spacing of R169 allows it (R172). -/
def blankDueNow (s : State) : Bool :=
  s.modeCtl.mode == .standby && s.display.blankDue && s.display.port == .free
    && s.display.sinceFrame.all (fun t => 20 ≤ t)

/-- A frame begins (R168, R169); the first of a start also starts the key schedule (R172). -/
def beginFrame (s : State) : State :=
  { s with display := { s.display with
      image := composeFrame s, stale := false, sinceFrame := some 0, port := .shifting,
      keyMark := some (s.display.keyMark.getD 0) } }

/-- The latch pulse (R167, R169). -/
def latchFrame (s : State) : State :=
  { s with display := { s.display with glass := some s.display.image, image := [], port := .free } }

/-! ## Keys (R173 to R177) -/

/-- The eight keys in the order in which a read finds them (R173). -/
def allKeys : List Key := [.page, .zero, .next, .delete, .material, .up, .down, .enter]

/-- The place of a key in a read (R173). -/
def keyIdx (k : Key) : Fin 8 :=
  match k with
  | .page => 0 | .zero => 1 | .next => 2 | .delete => 3 | .material => 4 | .up => 5 | .down => 6
  | .enter => 7

/-- The state of a key. -/
def Display.key (d : Display) (k : Key) : KeyState := d.keys[keyIdx k]

/-- One scan of one key (R174). -/
def KeyState.scan (x : KeyState) (level : Bool) : KeyState :=
  let run := if x.lastScan = some level then min 3 (x.run + 1) else 1
  { pressed := if run = 3 then level else x.pressed, lastScan := some level, run := run }

/-- The page after a page (R178). -/
def Page.next (p : Page) : Page :=
  match p with
  | .load => .bucket | .bucket => .shift | .shift => .status | .status => .load

/-- Show another page (R178). -/
def nextPage (s : State) : State :=
  notice { s with display := { s.display with page := s.display.page.next } }

/-- The status item above, wrapping from 1 to 7 (R183). -/
def previousItem (n : Nat) : Nat := if n ≤ 1 then 7 else n - 1

/-- The status item below, wrapping from 7 to 1 (R183). -/
def followingItem (n : Nat) : Nat := if 7 ≤ n then 1 else n + 1

/-- Show another status item, on the STATUS page only (R177, R183). -/
def moveItem (f : Nat → Nat) (s : State) : State :=
  if s.display.page = .status then
    notice { s with display := { s.display with statusItem := f s.display.statusItem } }
  else s

/-- ENTER in RUN makes a present message absent (R179). -/
def enterInRun (s : State) : State := if s.display.message.isSome then clearMessage s else s

/-- DELETE pressed in RUN starts the delete hold (R176). -/
def startHold (s : State) : State := { s with display := { s.display with deleteHold := some 0 } }

/-- The delete hold stops (R176). -/
def stopHold (s : State) : State := { s with display := { s.display with deleteHold := none } }

/-- A key action in RUN (R177). -/
def runKey (k : Key) (s : State) : State :=
  match k with
  | .page => nextPage s
  | .zero => zeroKey s
  | .next => nextKey s
  | .delete => startHold s
  | .material => materialKey s
  | .up => moveItem previousItem s
  | .down => moveItem followingItem s
  | .enter => enterInRun s

/-- A key action in SERVICE (R177). -/
def serviceKey (k : Key) (s : State) : State :=
  match k with
  | .page => nextPage s
  | .material => materialKey s
  | .up => captureStep 100 s
  | .down => captureStep (-100) s
  | .enter => captureEnter s
  | .zero | .next | .delete => s

/-- A key becomes PRESSED (R175, R177). -/
def keyAction (k : Key) (s : State) : State :=
  match s.modeCtl.mode with
  | .run => runKey k s
  | .service => serviceKey k s
  | .start | .join | .closing | .standby => s

/-- A key becomes RELEASED: no action, but a release of DELETE stops its hold (R175, R176). -/
def keyReleased (k : Key) (s : State) : State := if k = .delete then stopHold s else s

/-- One key of a scan (R174, R175). -/
def scanKey (levels : BitVec 8) (s : State) (k : Key) : State :=
  let old := s.display.key k
  let new := old.scan (levels.getLsbD (keyIdx k).val)
  let s1 := { s with display := { s.display with keys := s.display.keys.set (keyIdx k) new } }
  if new.pressed = old.pressed then s1
  else if new.pressed then keyAction k s1
  else keyReleased k s1

/-- One key read: the keys are taken in reading order (log entry 18); the port is free again at its end
(R172, R173). -/
def readKeys (levels : BitVec 8) (s : State) : State :=
  allKeys.foldl (scanKey levels) { s with display := { s.display with readWaiting := false } }

/-- Keys are read from the first frame of a start until the blank frame of STANDBY (R172). -/
def keysAreRead (s : State) : Bool :=
  s.display.sinceFrame.isSome && (s.modeCtl.mode != .standby || s.display.blankDue)

/-- The blank frame of STANDBY, sent and latched; the port then rests (R172). It clears the stale mark and does not
record its start as the last frame start (DESIGN CHOICE, log entry 28). -/
def sendBlank (s : State) : State :=
  { s with display := { s.display with
      glass := some blankImage, image := [], blankDue := false, stale := false, messageTimer := none,
      deleteHold := none, readWaiting := false } }

/-- The frame that is due goes before a key read (R172). -/
def dueFrameFirst (s : State) : State := if frameDue s then beginFrame s else s

/-- A key read is due: it is made with the port FREE, and waits for the latch pulse of a frame in flight
(R172, log entry 19). -/
def takeKeyRead (levels : BitVec 8) (s : State) : State :=
  if s.display.port = .free then readKeys levels s
  else { s with display := { s.display with readWaiting := true } }

/-- A mark of the key schedule: a frame due with it goes first (R172). The blank frame of STANDBY ends the key
reads, so where it is due no read follows it. -/
def keyMarkPasses (levels : BitVec 8) (s : State) : State :=
  let s1 := { s with
    pins := { s.pins with keyLevels := levels },
    display := { s.display with keyMark := some 0 } }
  if blankDueNow s then sendBlank s1 else takeKeyRead levels (dueFrameFirst s1)

/-- A read that waited is made after the latch pulse (R172). -/
def waitingRead (s : State) : State :=
  if s.display.readWaiting && keysAreRead s then readKeys s.pins.keyLevels s else s

end Sys2Proof.Machine
end

