-- ==== Sys2Proof/Machine/ModeOps.lean ====
section
/-! DEFINITION. The Mode Controller (R220 to R226): starts, the end of JOIN, closing, standby, and the reset line. -/

namespace Sys2Proof.Machine

/-! ## Start (R221) -/

/-- Step 1: the straps are read (R221, R203). -/
def readStraps (straps : Straps) (s : State) : State :=
  { s with
    pins := { s.pins with straps := straps },
    modeCtl := { s.modeCtl with
      station := stationOf straps, rate := rateOf straps, listenOnly := isListenOnly straps } }

/-- Step 2: the journal's scan and restore; the Calibration Unit takes its active record and the Shift Tally
its open shift, and then erase-ahead may begin (R221, R193, R198 to R200). -/
def scanAndRestore (s : State) : State :=
  let j := Journal.scan s.journal.store
  { s with
    cal := Calibration.restored j.restoredRecord,
    tally := j.restoredShift (stampNow s) s.clock.timeSet,
    journal := j.afterRestore }

/-- Step 3: the other blocks are cleared to their start values (R221). -/
def clearBlocks (s : State) : State :=
  { s with
    prod := .start, line := .start, trucks := .start, pass := .start, weigher := .start,
    cycle := .start, display := .start s.display.glass, mail := .start,
    clock := { s.clock with lockout := none, refusedTimes := 0 } }

/-- The part enters START and takes steps 1 to 3 (R221); every start clears restart pending, and after each the
key-switch level is ON (R220). The JOIN timer, which step 4 starts, stands at 0 (DESIGN CHOICE, log entry 52). -/
def startPart (straps : Straps) (s : State) : State :=
  clearBlocks (scanAndRestore (readStraps straps
    { s with modeCtl := { s.modeCtl with
        mode := .start, keyOn := true, joinTimer := 0, restartPending := false } }))

/-- The first use of the port at a start is a full frame showing the START screen (R221, step 3, R172): where none
has begun yet, it begins while the part is still in START (log entry 51). -/
def startFrame (s : State) : State := if s.display.sinceFrame.isNone then dueFrameFirst s else s

/-- Step 4: the part enters JOIN (R221). -/
def enterJoin (s : State) : State :=
  { s with
    modeCtl := { s.modeCtl with mode := .join, joinTimer := 0 },
    line := { s.line with listening := true } }

/-! ## Standby (R225) -/

/-- The Line Interface on entry to STANDBY (R216, R218). -/
def LineInterface.rest (l : LineInterface) : LineInterface :=
  { l with access := .silent, listening := false, queue := [], inbox := [], heartbeat := none }

/-- Entry to STANDBY (R225, R56, R172). -/
def enterStandby (s : State) : State :=
  { s with
    modeCtl := { s.modeCtl with mode := .standby },
    line := s.line.rest,
    cal := { s.cal with working := none },
    display := { s.display with blankDue := true } }

/-- In CLOSING, with the journal drained and no transmission in progress, the part enters STANDBY (R224). The
conditions of R202 name no read, so a read still waiting then is not served (DESIGN CHOICE, log entry 44). -/
def closingCheck (s : State) : State :=
  if s.modeCtl.mode = .closing ∧ s.journal.drainAsked ∧ s.journal.drained ∧ s.line.access ≠ .send then
    enterStandby s
  else s

/-! ## Closing (R224) -/

/-- A capture ends where the part leaves SERVICE (R56). -/
def leaveService (s : State) : State := if s.modeCtl.mode = .service then closeCapture s else s

/-- Step 4 of closing (R202, R224). -/
def askDrain (s : State) : State := { s with journal := { s.journal with drainAsked := true } }

/-- The part enters CLOSING: the capture and the delete hold end (R56, R176), then the four steps of R224. -/
def enterClosing (s : State) : State :=
  let s1 := stopHold (leaveService s)
  let s2 := { s1 with modeCtl := { s1.modeCtl with mode := .closing } }
  askDrain (takeSnapshot (keyOffClose (closingDiscard (weigherOff s2))))

/-! ## The end of JOIN (R222) -/

/-- Entry to RUN, each block's action in the order of R222 (R4, R126, R155, R210, R216). -/
def enterRun (s : State) : State :=
  startAccess (overdueTest (releaseHold (weigherLeavesOff
    { s with modeCtl := { s.modeCtl with mode := .run } })))

/-- Entry to SERVICE (R37, R155, R210, R216). -/
def enterService (s : State) : State :=
  startAccess (overdueTest (enterServiceCalibration
    { s with modeCtl := { s.modeCtl with mode := .service } }))

/-- PAGE and ENTER are both PRESSED (R222). -/
def serviceChosen (s : State) : Bool := (s.display.key .page).pressed && (s.display.key .enter).pressed

/-- The JOIN timer reaches 500 ms: the next mode (R222). -/
def endJoin (s : State) : State :=
  let s1 := { s with modeCtl := { s.modeCtl with joinTimer := 500 } }
  if !s.modeCtl.keyOn then enterClosing s1
  else if serviceChosen s then enterService s1
  else enterRun s1

/-! ## The key switch (R220) -/

/-- The key-switch level, and restart pending where the part is in CLOSING (R220, R225). -/
def setRestartPending (pending : Bool) (s : State) : State :=
  { s with modeCtl := { s.modeCtl with restartPending := pending } }

/-- A change of the key-switch level to OFF, by the mode (R220). -/
def keyTurnedOff (s : State) : State :=
  match s.modeCtl.mode with
  | .run | .service => enterClosing s
  | .closing => setRestartPending false s
  | .start | .join | .standby => s

/-- A change of the key-switch level to ON, by the mode (R220). In STANDBY before the blank frame the start
waits for it, as a pending restart does, so that a frame in flight is finished (R168, R172; DESIGN CHOICE, log
entry 43). -/
def keyTurnedOn (straps : Straps) (s : State) : State :=
  match s.modeCtl.mode with
  | .closing => setRestartPending true s
  | .standby => if s.display.blankDue then setRestartPending true s else startPart straps s
  | .start | .join | .run | .service => s

/-- The line has stood for 100 ms at the level `on` (R220): the level is taken, and a change of it acts by the
mode. The pin follows (log entry 29). -/
def takeKeyLevel (on : Bool) (straps : Straps) (s : State) : State :=
  let s1 := { s with
    pins := { s.pins with keySwitchHigh := on },
    modeCtl := { s.modeCtl with keyOn := on, stability := 0 } }
  if on = s.modeCtl.keyOn then s1
  else if on then keyTurnedOn straps s1
  else keyTurnedOff s1

/-! ## The reset line and the supply (R226) -/

/-- No telegram is being sent: the line is not driven (log entry 30). -/
def stopSending (q : List TxTelegram) : List TxTelegram := q.map (fun t => { t with sending := false })

/-- The reset line goes low: everything stops, a frame in flight, a program and an erase are cut, and the
Machine Line is not driven (R226). -/
def holdReset (s : State) : State :=
  if s.pins.resetLow then s
  else
    useFree { s with
      pins := { s.pins with resetLow := true },
      journal := s.journal.cut s.freeCount,
      display := { s.display with port := .free, image := [] },
      line := { s.line with
        access := .silent, listening := false, queue := stopSending s.line.queue } }

/-- The reset line rises: the calendar and the key-switch level are set and the part starts (R226, R146,
R220). A line that was not low is taken as pulsed (log entry 6). -/
def releaseReset (straps : Straps) (s : State) : State :=
  let s1 := holdReset s
  startPart straps { s1 with
    pins := { s1.pins with resetLow := false },
    modeCtl := { s1.modeCtl with stability := 0 },
    clock := .afterReset }

end Sys2Proof.Machine
end

