-- ==== Sys2Proof/Machine/ExecClock.lean ====
section
/-! DEFINITION. The commands of the Shift Clock (R147, R154). -/

namespace Sys2Proof.Machine

/-- CALENDAR_SECOND (R147, R152): in every mode, STANDBY included. -/
def execCalendarSecond (s : State) : Host.Outcome State Fault Refusal := whilePowered s secondPasses

/-- LOCKOUT_EXPIRY (R154). -/
def execLockoutExpiry (s : State) : Host.Outcome State Fault Refusal :=
  whilePowered s (fun s => { s with clock := { s.clock with lockout := none } })

end Sys2Proof.Machine
end

