-- ==== Sys2Proof/Machine/ExecDisplay.lean ====
section
/-! DEFINITION. The commands of the Display Controller (R168 to R179). -/

namespace Sys2Proof.Machine

/-- KEY_READ (R172 to R175) is a mark of the key schedule: once keys are read, the next mark is counted from it,
whatever the schedule's own count stands at (DESIGN CHOICE, log entry 1). -/
def execKeyRead (levels : BitVec 8) (s : State) : Host.Outcome State Fault Refusal :=
  whilePowered s (fun s => if keysAreRead s then keyMarkPasses levels s else s)

/-- DELETE_HOLD_EXPIRY (R176): a running hold delivers one delete action and stops. -/
def execDeleteHoldExpiry (s : State) : Host.Outcome State Fault Refusal :=
  whilePowered s (fun s =>
    if s.display.deleteHold.isSome ∧ s.modeCtl.mode = .run then deleteAction (stopHold s) else s)

/-- FRAME_BEGIN (R168, R169): a frame begins only where one is due. -/
def execFrameBegin (s : State) : Host.Outcome State Fault Refusal :=
  whilePowered s (fun s => if frameDue s then beginFrame s else s)

/-- FRAME_LATCH (R167, R168, R169), with the key read that waited for it (R172). -/
def execFrameLatch (s : State) : Host.Outcome State Fault Refusal :=
  whilePowered s (fun s => if s.display.port = .shifting then waitingRead (latchFrame s) else s)

/-- MESSAGE_TIMER_EXPIRY (R179). -/
def execMessageTimerExpiry (s : State) : Host.Outcome State Fault Refusal :=
  whilePowered s (fun s => if s.display.messageTimer.isSome then clearMessage s else s)

end Sys2Proof.Machine
end

