-- ==== Sys2Proof/Machine/ExecInputs.lean ====
section
/-! DEFINITION. The commands that are time limits of the inputs: the Producer Table's ages, the Weigher's and the
capture's timers (R21, R22, R49, R60, R65). -/

namespace Sys2Proof.Machine

/-- LINK_SILENCE (R60). -/
def execLinkSilence (ch : Channel) (slot : SlotId) (s : State) : Host.Outcome State Fault Refusal :=
  whilePowered s (silenceSlot ch slot)

/-- VALUE_STALE (R65). -/
def execValueStale (ch : Channel) (slot : SlotId) (s : State) : Host.Outcome State Fault Refusal :=
  whilePowered s (staleSlot ch slot)

/-- INPUT_LOST (R21, R24). -/
def execInputLost (s : State) : Host.Outcome State Fault Refusal :=
  whilePowered s (fun s => lapseLift (inputLostDue s) .inputLost s)

/-- STALL (R22, R24). -/
def execStall (s : State) : Host.Outcome State Fault Refusal :=
  whilePowered s (fun s => lapseLift (stallDue s) .stall s)

/-- CAPTURE_INPUT_LOST (R49). -/
def execCaptureInputLost (s : State) : Host.Outcome State Fault Refusal :=
  whilePowered s lapseCapture

end Sys2Proof.Machine
end

