-- ==== Sys2Proof/Machine/ExecJournal.lean ====
section
/-! DEFINITION. The commands of the Tally Journal: how the array's work ends (R191, R195, R196, R201). A journal at
rest in STANDBY has no work (R202). -/

namespace Sys2Proof.Machine

/-- A program failure takes one free value: how far the word programs came (R196, log entry 9). -/
def failJob (job : ProgramJob) (s : State) : State :=
  useFree (withJournal (fun j => j.failedProgram job (job.fail s.freeCount j.store)) s)

/-- A word program of this job does not read its value, so the record cannot be verified (R186, R196, log
entry 14). -/
def unverifiable (job : ProgramJob) (store : List StoreCell) (s : State) : State :=
  withJournal (fun j => j.failedProgram job store) s

/-- The record joins the readable set and its requester is told "written" (R191, R43); the array then takes
its next work (R192). -/
def recordWritten (job : ProgramJob) (store : List StoreCell) (s : State) : State :=
  let s1 := { s with journal := s.journal.dequeueJob job }
  let s2 := withJournal (fun j => j.written job store) s1
  let s3 := if job.kind = .machine ∧ job.fromCarry = false then saveOutcome true s2 else s2
  { s3 with journal := s3.journal.pump }

/-- JOURNAL_RECORD_WRITTEN (R191). -/
def execJournalRecordWritten (s : State) : Host.Outcome State Fault Refusal :=
  whilePowered s (fun s =>
    match s.journal.job with
    | none => s
    | some job =>
      let (store, verified) :=
        Store.program s.journal.store job.start job.words
      closingCheck (if verified then recordWritten job store s else unverifiable job store s))

/-- A read served (R201): its answers are handed over part by part, and the array takes its next work
(R192). -/
def serveRead (seq : Nat) (s : State) : State :=
  let s1 := (s.journal.answer seq).foldl (fun t d => transmit .journalRecord d t) s
  { s1 with journal := Journal.pump { s1.journal with serving := none } }

/-- READ_SERVED (R201). -/
def execReadServed (s : State) : Host.Outcome State Fault Refusal :=
  whilePowered s (fun s =>
    match s.journal.serving with
    | some seq => if s.modeCtl.mode = .standby then s else serveRead seq s
    | none => s)

/-- PROGRAM_FAILURE (R196). Where every word of the record reads its value already no word program can fail, and
the record is written (R186, log entry 14). -/
def execProgramFailure (s : State) : Host.Outcome State Fault Refusal :=
  whilePowered s (fun s =>
    match s.journal.job with
    | some job =>
      closingCheck (if (job.failable s.journal.store).isEmpty then recordWritten job s.journal.store s
                    else failJob job s)
    | none => s)

/-- The sector whose erase is in progress (R192, R195). -/
def Journal.erasingNow (j : Journal) : Option Nat := if j.op = .erasing then j.eraseSector else none

/-- ERASE_DONE (R195). -/
def execEraseDone (s : State) : Host.Outcome State Fault Refusal :=
  whilePowered s (fun s =>
    match s.journal.erasingNow with
    | some n => closingCheck (withJournal (fun j => j.erased n) s)
    | none => s)

/-- An erase ends as failed (R195): one free value says which bits it had set (log entry 10). -/
def failErase (n : Nat) (s : State) : State :=
  useFree (withJournal (fun j => j.failedErase n (Store.erasePart s.freeCount j.store n)) s)

/-- ERASE_FAILED (R195). An erase of a sector that reads 0xFFFF throughout is done and cannot fail (R186). -/
def execEraseFailed (s : State) : Host.Outcome State Fault Refusal :=
  whilePowered s (fun s =>
    match s.journal.erasingNow with
    | some n =>
      closingCheck (if fullyErased s.journal.store n then withJournal (fun j => j.erased n) s
                    else failErase n s)
    | none => s)

end Sys2Proof.Machine
end

