-- ==== Sys2Proof/Machine/ExecLine.lean ====
section
/-! DEFINITION. The commands of the Line Interface and of dispatch (R206 to R216). A change that ends a
transmission or hands a telegram on may let closing end (R224). -/

namespace Sys2Proof.Machine

/-- TELEGRAM_RECEIVED (R206, R207, R209). -/
def execTelegramReceived (chars : List WireChar) (s : State) : Host.Outcome State Fault Refusal :=
  whilePowered s (fun s => closingCheck (receive chars s))

/-- DISPATCH (R208). -/
def execDispatch (s : State) : Host.Outcome State Fault Refusal :=
  whilePowered s (fun s => closingCheck (dispatchOldest s))

/-- IDLE_GAP (R210). -/
def execIdleGap (s : State) : Host.Outcome State Fault Refusal :=
  whilePowered s (fun s =>
    if s.line.access = .waitIdle then { s with line := { s.line with access := .defer, slotCount := 0 } }
    else s)

/-- DEFER_SLOT (R210, R211). -/
def execDeferSlot (s : State) : Host.Outcome State Fault Refusal :=
  whilePowered s (fun s => if s.line.access = .defer then slotEnds s else s)

/-- CARRIER (R210). -/
def execCarrier (s : State) : Host.Outcome State Fault Refusal :=
  whilePowered s (fun s =>
    if s.line.access = .defer then { s with line := { s.line with access := .waitIdle } } else s)

/-- TRANSMIT_SUCCESS (R212). -/
def execTransmitSuccess (s : State) : Host.Outcome State Fault Refusal :=
  whilePowered s (fun s => if s.line.access = .send then closingCheck (transmissionDone s) else s)

/-- COLLISION (R212, R213). -/
def execCollision (s : State) : Host.Outcome State Fault Refusal :=
  whilePowered s (fun s => if s.line.access = .send then closingCheck (collide s) else s)

/-- HEARTBEAT (R216). -/
def execHeartbeat (s : State) : Host.Outcome State Fault Refusal :=
  whilePowered s (fun s => if s.line.heartbeat.isSome then beat s else s)

end Sys2Proof.Machine
end

