-- ==== Sys2Proof/Machine/ExecLoad.lean ====
section
/-! DEFINITION. The commands that take an event one block has raised to another (R31, R84, R89, R141), and the
phase timer's limit (R139). An event waits in `mail` from the rule that raises it; a command that finds none
waiting has no effect. The blocks stop in STANDBY (R225). -/

namespace Sys2Proof.Machine

/-- The blocks that follow the loader take events: in every mode but STANDBY (R126, R225). -/
def following (s : State) : Bool := s.modeCtl.mode != .standby

/-- RESOLUTION_REPORT (R31). -/
def execResolutionReport (s : State) : Host.Outcome State Fault Refusal :=
  whilePowered s (fun s =>
    if following s ∧ s.mail.resolutions ≠ 0 then
      takeResolution { s with mail := { s.mail with resolutions := s.mail.resolutions - 1 } }
    else s)

/-- DUMP_EVENT (R84, R88). -/
def execDumpEvent (s : State) : Host.Outcome State Fault Refusal :=
  whilePowered s (fun s =>
    match following s, s.mail.dumps with
    | true, tag :: rest => takeDump tag { s with mail := { s.mail with dumps := rest } }
    | _, _ => s)

/-- COMMIT_REPORT (R141). -/
def execCommitReport (s : State) : Host.Outcome State Fault Refusal :=
  whilePowered s (fun s =>
    match following s, s.mail.commits with
    | true, tag :: rest => takeCommitReport tag { s with mail := { s.mail with commits := rest } }
    | _, _ => s)

/-- BOOM_BELOW_EVENT (R89, R90). -/
def execBoomBelowEvent (s : State) : Host.Outcome State Fault Refusal :=
  whilePowered s (fun s =>
    if following s ∧ s.mail.boomBelow ≠ 0 then
      takeBoomBelow { s with mail := { s.mail with boomBelow := s.mail.boomBelow - 1 } }
    else s)

/-- PHASE_TIMER_LIMIT (R139): the timer runs while hold is clear, and stops on entry to STANDBY (R126). -/
def execPhaseTimerLimit (s : State) : Host.Outcome State Fault Refusal :=
  whilePowered s (fun s => if following s ∧ s.cycle.hold = false then phaseTimerAtLimit s else s)

end Sys2Proof.Machine
end

