-- ==== Sys2Proof/Machine/ExecMode.lean ====
section
/-! DEFINITION. The commands of the Mode Controller, the supply and the reset line (R220 to R226, R172). -/

namespace Sys2Proof.Machine

/-- POWER_ON (R226): a supply that rises acts as a release of the reset line. -/
def execPowerOn (straps : Straps) (s : State) : Host.Outcome State Fault Refusal :=
  .next (releaseReset straps s)

/-- RESET_LINE_LOW (R226). -/
def execResetLineLow (s : State) : Host.Outcome State Fault Refusal := .next (holdReset s)

/-- RESET_LINE_RELEASE (R226). -/
def execResetLineRelease (straps : Straps) (s : State) : Host.Outcome State Fault Refusal :=
  .next (releaseReset straps s)

/-- JOIN (R221, step 4), after the first frame of step 3 has begun. -/
def execJoin (s : State) : Host.Outcome State Fault Refusal :=
  whilePowered s (fun s => if s.modeCtl.mode = .start then enterJoin (startFrame s) else s)

/-- KEY_SWITCH_EDGE (R220): the line itself changes even while the part is held in reset. -/
def execKeySwitchEdge (high : Bool) (s : State) : Host.Outcome State Fault Refusal :=
  .next { s with
    pins := { s.pins with keySwitchHigh := high }, modeCtl := { s.modeCtl with stability := 0 } }

/-- KEY_SWITCH_LEVEL_CHANGE (R220). -/
def execKeySwitchLevelChange (on : Bool) (straps : Straps) (s : State) :
    Host.Outcome State Fault Refusal :=
  whilePowered s (fun s => closingCheck (takeKeyLevel on straps s))

/-- JOIN_END (R222). -/
def execJoinEnd (s : State) : Host.Outcome State Fault Refusal :=
  whilePowered s (fun s => if s.modeCtl.mode = .join then closingCheck (endJoin s) else s)

/-- BLANK_FRAME (R172): sent once after entry to STANDBY, when the port is FREE and R169 allows it. -/
def execBlankFrame (s : State) : Host.Outcome State Fault Refusal :=
  whilePowered s (fun s => if blankDueNow s then sendBlank s else s)

/-- RESTART (R225): a pending restart begins START once the blank frame has been sent. -/
def execRestart (straps : Straps) (s : State) : Host.Outcome State Fault Refusal :=
  whilePowered s (fun s =>
    if s.modeCtl.mode = .standby ∧ s.modeCtl.restartPending ∧ s.display.blankDue = false then
      startPart straps s
    else s)

end Sys2Proof.Machine
end

