-- ==== Sys2Proof/Machine/Dispatch.lean ====
section
/-! DEFINITION. Every command and its meaning, one arm each, in the order of spec/opcode_table.json. -/

namespace Sys2Proof.Machine

def exec (i : Instr) (s : State) : Host.Outcome State Fault Refusal :=
  match i with
  | .powerOn straps => Sys2Proof.Machine.execPowerOn straps s
  | .resetLineLow => Sys2Proof.Machine.execResetLineLow s
  | .resetLineRelease straps => Sys2Proof.Machine.execResetLineRelease straps s
  | .join => Sys2Proof.Machine.execJoin s
  | .keySwitchEdge high => Sys2Proof.Machine.execKeySwitchEdge high s
  | .keySwitchLevelChange on straps => Sys2Proof.Machine.execKeySwitchLevelChange on straps s
  | .joinEnd => Sys2Proof.Machine.execJoinEnd s
  | .blankFrame => Sys2Proof.Machine.execBlankFrame s
  | .restart straps => Sys2Proof.Machine.execRestart straps s
  | .telegramReceived chars => Sys2Proof.Machine.execTelegramReceived chars s
  | .dispatch => Sys2Proof.Machine.execDispatch s
  | .linkSilence ch slot => Sys2Proof.Machine.execLinkSilence ch slot s
  | .valueStale ch slot => Sys2Proof.Machine.execValueStale ch slot s
  | .idleGap => Sys2Proof.Machine.execIdleGap s
  | .deferSlot => Sys2Proof.Machine.execDeferSlot s
  | .carrier => Sys2Proof.Machine.execCarrier s
  | .transmitSuccess => Sys2Proof.Machine.execTransmitSuccess s
  | .collision => Sys2Proof.Machine.execCollision s
  | .heartbeat => Sys2Proof.Machine.execHeartbeat s
  | .inputLost => Sys2Proof.Machine.execInputLost s
  | .stall => Sys2Proof.Machine.execStall s
  | .resolutionReport => Sys2Proof.Machine.execResolutionReport s
  | .captureInputLost => Sys2Proof.Machine.execCaptureInputLost s
  | .keyRead levels => Sys2Proof.Machine.execKeyRead levels s
  | .deleteHoldExpiry => Sys2Proof.Machine.execDeleteHoldExpiry s
  | .dumpEvent => Sys2Proof.Machine.execDumpEvent s
  | .commitReport => Sys2Proof.Machine.execCommitReport s
  | .boomBelowEvent => Sys2Proof.Machine.execBoomBelowEvent s
  | .phaseTimerLimit => Sys2Proof.Machine.execPhaseTimerLimit s
  | .calendarSecond => Sys2Proof.Machine.execCalendarSecond s
  | .lockoutExpiry => Sys2Proof.Machine.execLockoutExpiry s
  | .frameBegin => Sys2Proof.Machine.execFrameBegin s
  | .frameLatch => Sys2Proof.Machine.execFrameLatch s
  | .messageTimerExpiry => Sys2Proof.Machine.execMessageTimerExpiry s
  | .journalRecordWritten => Sys2Proof.Machine.execJournalRecordWritten s
  | .readServed => Sys2Proof.Machine.execReadServed s
  | .programFailure => Sys2Proof.Machine.execProgramFailure s
  | .eraseDone => Sys2Proof.Machine.execEraseDone s
  | .eraseFailed => Sys2Proof.Machine.execEraseFailed s

end Sys2Proof.Machine
end

