-- ==== Sys2Proof/Machine/Tick.lean ====
section
/-! DEFINITION. The part's own timebase, used by a step that finds no command waiting (log entry 2): which of the
part's own events is due, and what one millisecond does to the timers. -/

namespace Sys2Proof.Machine

/-! ## One millisecond -/

/-- A running timer counts up to its limit. -/
def tickUp (limit : Nat) (t : Option Nat) : Option Nat := t.map (countUp limit)

/-- A running timer counts down to 0. -/
def tickDown (t : Option Nat) : Option Nat := t.map (fun n => n - 1)

/-- The ages of a slot: the link age stops at 1,000 ms, and the value age has no limit (R58, R60). -/
def Slot.tick (x : Slot) : Slot :=
  { x with linkAge := tickUp 1000 x.linkAge, valueAge := x.valueAge.map (fun n => n + 1) }

/-- The ages of every slot. -/
def ProducerTable.tick (p : ProducerTable) : ProducerTable :=
  allChannels.foldl
    (fun q ch => (q.setSlot ch .primary (q.slot ch .primary).tick).setSlot ch .secondary
      (q.slot ch .secondary).tick) p

/-- The Weigher's timers (R21, R22). -/
def Weigher.tick (w : Weigher) : Weigher :=
  { w with acc := { w.acc with
      inputTimer := tickUp 250 w.acc.inputTimer, stallTimer := tickUp 3000 w.acc.stallTimer } }

/-- The phase timer, in 0.1 s (R139). -/
def CycleTracker.tick (c : CycleTracker) : CycleTracker :=
  if c.hold then c
  else if c.timerSub < 99 then { c with timerSub := c.timerSub + 1 }
  else { c with timerSub := 0, timer := countUp limit16 c.timer }

/-- The time spent erasing (R186, R195); a held erase does not count. -/
def Journal.tick (j : Journal) : Journal :=
  if j.op = .erasing then { j with eraseTime := countUp 1500 j.eraseTime } else j

/-- The display's timers (R166, R172), which rest in STANDBY once the blank frame has been sent. -/
def Display.tick (d : Display) : Display :=
  { d with
    messageTimer := tickDown d.messageTimer, deleteHold := tickUp 2000 d.deleteHold,
    sinceFrame := tickUp 100 d.sinceFrame, keyMark := tickUp 20 d.keyMark }

/-- What counts in every mode: the calendar, the lockout and the key-switch watch (R147, R154, R220, R225). -/
def tickAlways (s : State) : State :=
  { s with
    clock := { s.clock with
      secondPhase := countUp 1000 s.clock.secondPhase, lockout := tickDown s.clock.lockout },
    modeCtl := { s.modeCtl with
      stability :=
        if s.pins.keySwitchHigh = s.modeCtl.keyOn then 0 else countUp 100 s.modeCtl.stability } }

/-- What counts while the blocks run (R225). -/
def tickBlocks (s : State) : State :=
  let s1 := { s with
    modeCtl := { s.modeCtl with
      joinTimer := if s.modeCtl.mode = .join then countUp 500 s.modeCtl.joinTimer
                   else s.modeCtl.joinTimer },
    weigher := s.weigher.tick,
    cal := { s.cal with inputTimer := tickUp 250 s.cal.inputTimer },
    cycle := s.cycle.tick,
    line := { s.line with heartbeat := tickDown s.line.heartbeat },
    journal := s.journal.tick }
  if tableRuns s.modeCtl.mode then setProducers s1.prod.tick s1 else s1

/-- One millisecond of the part's own timebase. -/
def advance (s : State) : State :=
  if s.pins.resetLow then s
  else
    let s1 := tickAlways s
    let s2 := if s.modeCtl.mode = .standby then s1 else tickBlocks s1
    if s.modeCtl.mode ≠ .standby ∨ s.display.blankDue then { s2 with display := s2.display.tick } else s2

/-! ## Events due (log entry 2) -/

/-- The slots by channel. -/
def allSlots : List (Channel × SlotId) := allChannels.flatMap (fun ch => [(ch, .primary), (ch, .secondary)])

/-- The first of a list of pairs whose condition holds. -/
def firstDue : List (Bool × Instr) → Option Instr
  | [] => none
  | (b, c) :: rest => if b then some c else firstDue rest

/-- The events of the clock, the modes and the hand-overs between blocks. -/
def clockAndModeEvents (s : State) : List (Bool × Instr) :=
  let running := s.modeCtl.mode != .standby
  [(1000 ≤ s.clock.secondPhase, .calendarSecond),
   (s.clock.lockout == some 0, .lockoutExpiry),
   (100 ≤ s.modeCtl.stability, .keySwitchLevelChange s.pins.keySwitchHigh s.pins.straps),
   (s.modeCtl.mode == .join && 500 ≤ s.modeCtl.joinTimer, .joinEnd),
   (!s.line.inbox.isEmpty, .dispatch),
   (running && !s.mail.dumps.isEmpty, .dumpEvent),
   (running && s.mail.boomBelow != 0, .boomBelowEvent),
   (running && !s.mail.commits.isEmpty, .commitReport),
   (running && s.mail.resolutions != 0, .resolutionReport),
   (running && s.journal.serving.isSome, .readServed)]

/-- The silences that are due (R60). -/
def silenceEvents (s : State) : List (Bool × Instr) :=
  (allSlots.filter (fun x => silenceDue x.1 x.2 s)).map (fun x => (true, .linkSilence x.1 x.2))

/-- The events of the other timers. -/
def timerEvents (s : State) : List (Bool × Instr) :=
  let running := s.modeCtl.mode != .standby
  [(inputLostDue s, .inputLost), (stallDue s, .stall), (captureLostDue s, .captureInputLost),
   (s.display.messageTimer == some 0, .messageTimerExpiry),
   (s.modeCtl.mode == .run && reached 2000 s.display.deleteHold, .deleteHoldExpiry),
   (s.line.heartbeat == some 0, .heartbeat),
   (running && !s.cycle.hold && limit16 ≤ s.cycle.timer && !s.cycle.current.flags.long,
     .phaseTimerLimit),
   (s.journal.erasingNow.isSome && 1500 ≤ s.journal.eraseTime, .eraseFailed)]

/-- The events of the display and the restart from STANDBY; of a frame and a key read due together the frame
is first (R172). -/
def displayEvents (s : State) : List (Bool × Instr) :=
  [(frameDue s, .frameBegin),
   (blankDueNow s, .blankFrame),
   (keysAreRead s && reached 20 s.display.keyMark, .keyRead s.pins.keyLevels),
   (s.modeCtl.mode == .standby && s.modeCtl.restartPending && !s.display.blankDue,
     .restart s.pins.straps)]

/-- The part's own events in their fixed order, each with its condition. -/
def ownEvents (s : State) : List (Bool × Instr) :=
  clockAndModeEvents s ++ silenceEvents s ++ timerEvents s ++ displayEvents s

/-- The part's own event that is due now, if there is one; none while the reset line is low (R226). -/
def dueEvent (s : State) : Option Instr := if s.pins.resetLow then none else firstDue (ownEvents s)

end Sys2Proof.Machine
end

