-- ==== Sys2Proof/Safety.lean ====
section
/-! DEFINITION. What a safe state and a safe run of the part are, in the terms the claims use: the laws that the
spec's rules lay over each block. -/

namespace Sys2Proof.Machine

/-! ## The Truck List (R102, R103, R106) -/

/-- A truck's total is the sum of its listed passes' weights, which are numbered from 1 (R103); a fifteenth
pass closes its truck, so none waits with fifteen (R106). -/
def TruckEntry.lawful (e : TruckEntry) : Bool :=
  decide (e.total = (e.passes.map (fun p => p.weight)).sum)
    && e.passes.map (fun p => p.number) == (List.range e.passes.length).map (fun n => n + 1)
    && decide (e.passes.length < 15)

/-- A waiting truck is identified, holds no passes, and its total is 0 (R102). -/
def TruckEntry.waiting (e : TruckEntry) : Bool := e.identity.isSome && e.passes.isEmpty && e.total == 0

/-- The laws over the list (R102, R103): at most four entries, no identity twice, an anonymous entry at the
head only, waiting trucks without passes. -/
def TruckList.lawful (l : TruckList) : Bool :=
  decide (l.entries.length ≤ 4) && l.entries.all TruckEntry.lawful
    && l.entries.tail.all TruckEntry.waiting
    && decide ((l.entries.filterMap (fun e => e.identity)).Nodup)

/-! ## Queues (R190, R201, R205, R207, R215) -/

/-- Every queue holds at most what its rule allows. -/
def State.queuesBounded (s : State) : Bool :=
  decide (s.line.inbox.length ≤ 4) && decide (s.line.queue.length ≤ 8)
    && decide (s.journal.appendQueue.length ≤ 4) && decide (s.journal.readQueue.length ≤ 2)

/-! ## Transmission (R210, R213, R215, R223) -/

/-- The part is silent: it transmits nothing and has nothing to transmit. -/
def LineInterface.quiet (l : LineInterface) : Bool :=
  l.access == .silent && l.queue.isEmpty && l.heartbeat.isNone

/-- A part in LISTEN_ONLY or CLASH is silent (R213, R215, R223). -/
def State.mutedQuiet (s : State) : Bool := !muted s || s.line.quiet

/-! ## One pending pass (R4, R30, R93) -/

/-- The Weigher is OFF exactly outside RUN (R4), save that a part held in reset keeps what it held. -/
def State.offOutsideRun (s : State) : Bool := (s.modeCtl.mode == .run) == (s.weigher.state != .off)

/-- A pass is pending exactly while the Weigher is in HELD and its resolution has not been reported; the
report is then under way (R30, R31, R93). -/
def State.onePass (s : State) : Bool :=
  match s.weigher.state with
  | .held => (s.pass.pending.isSome && s.mail.resolutions == 0)
      || (s.pass.pending.isNone && s.mail.resolutions == 1)
  | .off => s.pass.pending.isNone
      && (s.mail.resolutions == 0 || s.modeCtl.mode == .closing || s.modeCtl.mode == .standby)
  | .noCal | .below | .inWindow | .above => s.pass.pending.isNone && s.mail.resolutions == 0

/-- Both laws of the pending pass. -/
def State.passLaw (s : State) : Bool := s.offOutsideRun && s.onePass

/-! ## Modes (R220 to R225) -/

/-- Where a mode may lead without a reset (R220 to R225); STANDBY may follow at once where closing finds nothing
to drain. -/
def Mode.mayLeadTo (m n : Mode) : Bool :=
  m == n ||
  match m with
  | .start => n == .join
  | .join => n == .run || n == .service || n == .closing || n == .standby
  | .run | .service => n == .closing || n == .standby
  | .closing => n == .standby
  | .standby => n == .start

/-- A command that resets the part (R226). -/
def isReset (c : Instr) : Bool :=
  match c with
  | .powerOn _ | .resetLineRelease _ => true
  | _ => false

/-- A command that begins a start in this state (R220, R225, R226): every supply rise and reset release, a key-on
taken in STANDBY, and a pending restart. -/
def beginsStart (c : Instr) (s : State) : Bool :=
  let standby := !s.pins.resetLow && s.modeCtl.mode == .standby && !s.display.blankDue
  match c with
  | .powerOn _ | .resetLineRelease _ => true
  | .keySwitchLevelChange on _ => on && !s.modeCtl.keyOn && standby
  | .restart _ => s.modeCtl.restartPending && standby
  | _ => false

/-! ## The end of closing (R224, R225) -/

/-- Closing is over: the journal is drained and no transmission is in progress (R202, R224). -/
def State.closingOver (s : State) : Bool :=
  s.modeCtl.mode == .closing && s.journal.drainAsked && s.journal.drained && s.line.access != .send

/-- A state with the entry actions of STANDBY taken (R225): nothing is received or sent, the queue, the inbox and the
HEARTBEAT timer are gone (R216, R218), the working copy is dropped (R56), and the blank frame is due (R172). -/
def standbyOf (s : State) : State :=
  { s with
    modeCtl := { s.modeCtl with mode := .standby },
    line := { s.line with access := .silent, listening := false, queue := [], inbox := [], heartbeat := none },
    cal := { s.cal with working := none },
    display := { s.display with blankDue := true } }

/-- The part has entered STANDBY with its entry actions taken, over a drained journal (R224, R225). -/
def EnteredStandby (t : State) : Prop :=
  t = standbyOf t ∧ t.journal.drainAsked = true ∧ t.journal.drained = true

/-! ## A shift change (R154, R156) -/

/-- What a shift change that is raised leaves of a state (R116, R154, R156, R160): the head with passes has closed
with its record and its TRUCK_STATE, the closing shift's record is asked for, the next shift is open from the present
reading, the lockout runs, and its text is shown. Nothing else changes. -/
def ShiftChanged (s t : State) : Prop :=
  let open_ := if s.tally.shift = 65535 then 1 else s.tally.shift + 1
  let change := fun (entries : List TruckEntry) (line : LineInterface) (j : Journal) (closing : ShiftFigures) =>
    { s with
      trucks := { s.trucks with entries := entries }, line := line,
      journal := (j.append .shiftClosed (closing.body (stampNow s))).1,
      tally := .opened open_ (stampNow s) true,
      clock := { s.clock with lockout := some 3600000 },
      display := { s.display with
        message := some (.shiftOpen open_), messageTimer := some 3000, stale := true } }
  (headHoldsPass s = false → t = change s.trucks.entries s.line s.journal s.tally) ∧
  (∀ e back, s.trucks.entries = e :: back → e.passes ≠ [] →
    t = change back
      (transmit .truckState (truckStateData s.tally.shift e (.closed .shiftChange) .none back.length) s).line
      (s.journal.append .truckClosed
        (truckClosedBody s.tally.shift e .shiftChange (stampNow s))).1
      { s.tally with trucks := min 65535 (s.tally.trucks + 1) })

/-! ## The store array (R186) -/

/-- The word at an address lies in the record being programmed (R191). -/
def Journal.programs (j : Journal) (a : Nat) : Bool :=
  j.job.any (fun job =>
    storeAddr job.sector job.addr ≤ a && a < storeAddr job.sector job.addr + job.words.length)

/-- The word at an address lies in the sector whose erase is pending, in progress or held (R193). -/
def Journal.erases (j : Journal) (a : Nat) : Bool := j.eraseSector == some (a / sectorWords)

/-- The bits of `w` that are 1 are 1 in `v` too: `v` can become `w` by a word program (R186). -/
def onlyFalls (v w : Word) : Bool := w &&& v == w

/-! ## Records of the machine that a journal record can carry (R34, R219) -/

/-- A force fits in 32 bits, signed. -/
def fits32 (i : Int) : Bool := decide (-2147483648 ≤ i) && decide (i ≤ 2147483647)

/-- A machine record within its ranges, whose forces fit the words of R219. -/
def MachineRecord.storable (r : MachineRecord) : Bool :=
  r.passes && r.curves.all (fun c => c.empty.toList.all fits32 && c.loaded.toList.all fits32)

/-- Shift figures within the widths of R157. -/
def ShiftFigures.inWidth (f : ShiftFigures) : Bool :=
  [f.shift, f.cycles, f.passes, f.trucks, f.unweighed, f.empties, f.aborted, f.carriedBack,
    f.redigs].all (fun n => n ≤ limit16)
    && [f.openTime, f.payload, f.cycleTimeSum].all (fun n => n ≤ limit32)

/-! ## The frame (R167) -/

/-- A character code of the table of R167. -/
def isCharCode (b : Byte) : Bool :=
  let n := b.toNat
  n == 32 || n == 37 || n == 42 || n == 43 || n == 45 || n == 46 || n == 47 || (48 ≤ n && n ≤ 57)
    || n == 63 || (65 ≤ n && n ≤ 90) || n == 94

/-! ## The open shift (R159) -/

/-- The unweighed cycles never exceed the cycles, nor those their limit (R157, R159). -/
def ShiftFigures.unweighedLaw (f : ShiftFigures) : Bool :=
  decide (f.unweighed ≤ f.cycles) && decide (f.cycles ≤ limit16)

/-! ## Accepted telegrams (R59, R62) -/

/-- A telegram of a channel is accepted from the station that holds its slot 1: it is the slot's first, it
resynchronises the slot, or it does not repeat the last sequence. -/
def State.accepts (s : State) (ch : Channel) (r : RxTelegram) : Bool :=
  let x := s.prod.slot ch .primary
  x.station == some r.sender && (x.resync || x.lastSeq != some r.seq)

/-! ## Runs -/

/-- A state in which every law above holds and the store array has its canonical form. -/
def State.safe (s : State) : Prop :=
  Store.wf s.journal.store ∧ s.trucks.lawful ∧ s.queuesBounded ∧ s.mutedQuiet ∧ s.passLaw
    ∧ s.tally.unweighedLaw

/-- A run of `n` steps that passes through safe states only and does not stop. -/
def safeRun : Nat → State → Prop
  | 0, s => s.safe
  | n + 1, s =>
    s.safe ∧
      match step s with
      | .next t => safeRun n t
      | .fault _ => False
      | .refused _ => False

end Sys2Proof.Machine
end

