-- ==== Sys2Proof/Certificates/Slice0/Obligations.lean ====
section
/-! DEFINITION. The statements for the provers. A command's statement ends in the next state the rules give; a field
of State that an update does not name is unchanged. -/

open Sys2Proof Sys2Proof.Machine

/-! ## The step -/

/-- A step takes the command at the front of the queue and runs it with the queue's rest. -/
def Obligations.StepRunsFront : Prop :=
  ∀ (c : Instr) (rest : List Instr) (s : State),
    step { s with pending := c :: rest } = exec c { s with pending := rest }

/-- The model's choice (log entry 2): with no command waiting, a step takes the part's own event that is due, and
where none is due one millisecond passes; while the reset line is low nothing happens. -/
def Obligations.StepIdles : Prop :=
  ∀ s : State, s.pending = [] →
    (∀ c, dueEvent s = some c → step s = exec c s) ∧
    (dueEvent s = none → step s = .next (advance s)) ∧
    (s.pins.resetLow = true → step s = .next s)

/-- No command stops the part, and none touches the queue of waiting commands. -/
def Obligations.EveryCommandCompletes : Prop :=
  ∀ (c : Instr) (s : State), ∃ t, exec c s = .next t ∧ t.pending = s.pending

/-! ## Reset, the supply and the starts (R220, R221, R226) -/

/-- What reset leaves in the fields whose start value the spec states (R3, R34, R36, R58, R79, R101, R125, R146,
R157, R163, R166, R188, R189, R192, R197, R199, R205, R220, R226). The straps, pins and array of State.reset are
the model's choice (log entries 4 and 5). -/
def Obligations.ResetValues : Prop :=
  let s := State.reset
  s.modeCtl.mode = .start ∧ s.modeCtl.keyOn = true ∧ s.modeCtl.restartPending = false ∧
  s.clock.calendar = { year := 2000, month := 1, day := 1, hour := 0, minute := 0, second := 0 } ∧
  s.clock.timeSet = false ∧ s.clock.lockout = none ∧
  s.weigher.state = .off ∧ s.weigher.z = 0 ∧ s.weigher.zeroArmed = false ∧ s.weigher.lastBoom = none ∧
  s.cal.active.curves = none ∧ s.cal.active.headArea = 40000 ∧ s.cal.working = none ∧
  s.cal.capture = .idle ∧ s.cal.refEntry = 5000 ∧
  (∀ ch id, (s.prod.slot ch id).state = .empty ∧ (s.prod.slot ch id).station = none) ∧
  s.pass.pending = none ∧ s.pass.material = .m1 ∧ s.trucks.entries = [] ∧
  s.cycle.phase = .dig ∧ s.cycle.hold = true ∧ s.cycle.current.number = 1 ∧
  s.tally.shift = 1 ∧ s.tally.passes = 0 ∧ s.tally.payload = 0 ∧
  s.display.page = .load ∧ s.display.statusItem = 1 ∧ s.display.message = none ∧
  s.display.stale = true ∧ s.display.port = .free ∧ s.display.sinceFrame = none ∧
  s.journal.nextSeq = 1 ∧ s.journal.jstate = .ok ∧ s.journal.op = .idle ∧
  s.line.listening = false ∧ s.line.access = .silent ∧ s.line.clash = false ∧ s.line.queue = []

/-- RESET_LINE_LOW: the part stops; a frame in flight is cut without its latch pulse, the work of the array is cut,
the Machine Line is not driven (R226, R168); that nothing else is touched is the model's choice (log entry 35).
While the line is low no block takes any event: a command that is neither a reset nor an edge of the key-switch
line changes nothing. How far the cut work had come is left open (log entries 8 and 10). -/
def Obligations.ResetLineHoldsThePart : Prop :=
  (∀ s : State, s.pins.resetLow = false →
    exec .resetLineLow s = .next { s with
      pins := { s.pins with resetLow := true },
      journal := s.journal.cut s.freeCount,
      display := { s.display with port := .free, image := [] },
      line := { s.line with
        access := .silent, listening := false,
        queue := s.line.queue.map (fun t => { t with sending := false }) },
      freeCount := s.freeCount + 1 }) ∧
  (∀ (c : Instr) (s : State), s.pins.resetLow = true → isReset c = false →
    (∀ b, c ≠ .keySwitchEdge b) → exec c s = .next s)

/-- POWER_ON and RESET_LINE_RELEASE from a held reset: the calendar, the key-switch level, the straps, the start
values of every block, the restore from the array as it stands, and the drivers showing what they showed (R221,
R203, R226). For the glass at a power-on see log entry 42, for events on their way log entry 7. -/
def Obligations.ReleaseStartsThePart : Prop :=
  ∀ (straps : Straps) (c : Instr) (s : State),
    c = .powerOn straps ∨ c = .resetLineRelease straps → s.pins.resetLow = true →
    ∃ t, exec c s = .next t ∧ t.pins.resetLow = false ∧ t.modeCtl.mode = .start ∧
      t.modeCtl.keyOn = true ∧ t.modeCtl.stability = 0 ∧ t.modeCtl.restartPending = false ∧
      t.modeCtl.station = straps.station.toNat ∧
      t.modeCtl.listenOnly = (straps.station == 0#5 || straps.station == 31#5) ∧
      (t.modeCtl.rate = match straps.rate0, straps.rate1 with
        | false, false => .kbit125
        | true, false => .kbit250
        | false, true => .kbit500
        | true, true => .kbit1000) ∧
      t.clock.calendar = { year := 2000, month := 1, day := 1, hour := 0, minute := 0, second := 0 } ∧
      t.clock.secondPhase = 0 ∧ t.clock.timeSet = false ∧ t.clock.lockout = none ∧
      t.weigher = .start ∧ t.prod = .start ∧ t.line = .start ∧ t.trucks = .start ∧ t.pass = .start ∧
      t.cycle = .start ∧ t.display = .start s.display.glass ∧ t.mail = .start ∧
      t.cal = Calibration.restored (Journal.scan s.journal.store).restoredRecord ∧
      t.tally = (Journal.scan s.journal.store).restoredShift 0 false ∧
      t.journal.store = s.journal.store ∧ t.pending = s.pending

/-- A key-on from STANDBY, by KEY_SWITCH_LEVEL_CHANGE or by RESTART, starts the part with the calendar and time-set
kept, the lockout stopped, the key-switch level ON, and every other block at its start values (R146, R220, R221,
R225). Before the blank frame has been sent a key-on makes the restart pending, by the model's choice (log entry
43). -/
def Obligations.KeyOnStartsFromStandby : Prop :=
  ∀ (straps : Straps) (s : State), s.pins.resetLow = false → s.modeCtl.mode = .standby →
    (∀ c, ((c = .keySwitchLevelChange true straps ∧ s.modeCtl.keyOn = false) ∨
        (c = .restart straps ∧ s.modeCtl.restartPending = true)) → s.display.blankDue = false →
      ∃ t, exec c s = .next t ∧ t.modeCtl.mode = .start ∧ t.modeCtl.restartPending = false ∧
        t.modeCtl.keyOn = true ∧ t.modeCtl.station = straps.station.toNat ∧
        t.clock = { s.clock with lockout := none, refusedTimes := 0 } ∧
        t.weigher = .start ∧ t.prod = .start ∧ t.line = .start ∧ t.trucks = .start ∧ t.pass = .start ∧
        t.cycle = .start ∧ t.display = .start s.display.glass ∧
        t.cal = Calibration.restored (Journal.scan s.journal.store).restoredRecord ∧
        t.tally = (Journal.scan s.journal.store).restoredShift (stampNow s) s.clock.timeSet ∧
        t.journal.store = s.journal.store) ∧
    (s.modeCtl.keyOn = false → s.display.blankDue = true →
      exec (.keySwitchLevelChange true straps) s = .next { s with
        pins := { s.pins with keySwitchHigh := true },
        modeCtl := { s.modeCtl with keyOn := true, stability := 0, restartPending := true } })

/-! ## The key switch, the end of JOIN, closing and standby (R220, R222, R224, R225, R172) -/

/-- KEY_SWITCH_EDGE restarts the stability timer and leaves the level, also while the reset line is low (R220; log
entry 35). A KEY_SWITCH_LEVEL_CHANGE in START and JOIN, and one to OFF in STANDBY, is kept; in CLOSING, which has
not ended, it sets or cancels a pending restart (R220, R225). The pin follows the level taken (log entry 29). -/
def Obligations.KeySwitchIsWatched : Prop :=
  (∀ (high : Bool) (s : State),
    exec (.keySwitchEdge high) s = .next { s with
      pins := { s.pins with keySwitchHigh := high }, modeCtl := { s.modeCtl with stability := 0 } }) ∧
  (∀ (on : Bool) (straps : Straps) (s : State), s.pins.resetLow = false → s.modeCtl.keyOn = !on →
    ((s.modeCtl.mode = .start ∨ s.modeCtl.mode = .join ∨ (s.modeCtl.mode = .standby ∧ on = false)) →
      exec (.keySwitchLevelChange on straps) s = .next { s with
        pins := { s.pins with keySwitchHigh := on },
        modeCtl := { s.modeCtl with keyOn := on, stability := 0 } }) ∧
    (s.modeCtl.mode = .closing →
      (s.journal.drainAsked = false ∨ s.journal.drained = false ∨ s.line.access = .send) →
      exec (.keySwitchLevelChange on straps) s = .next { s with
        pins := { s.pins with keySwitchHigh := on },
        modeCtl := { s.modeCtl with keyOn := on, stability := 0, restartPending := on } }))

/-- Key-off in RUN or SERVICE enters CLOSING (R220, R224): the Weigher is OFF with no accumulator, no pass is
pending and the one that was is reported resolved, a head that held passes has closed with its TRUCK_CLOSED record
asked for and the list is empty, the SHIFT_SNAPSHOT of the figures after that close is asked for, the delete hold
has stopped, and the journal is asked to drain. The calendar and the active record stay. Where the journal is
drained at once and no transmission is in progress, the part enters STANDBY in that command; otherwise it stays in
CLOSING with its line as it was but for what the close hands over. In CLOSING every command but a reset leaves the
part there while closing is not over, and in STANDBY, its entry actions taken, as soon as the journal is drained
and no transmission is in progress (R56, R172, R216, R218, R225). -/
def Obligations.KeyOffCloses : Prop :=
  (∀ (straps : Straps) (s : State), s.pins.resetLow = false → s.modeCtl.keyOn = true →
    (s.modeCtl.mode = .run ∨ s.modeCtl.mode = .service) →
    let figures := { s.tally with
      trucks := if headHoldsPass s then min 65535 (s.tally.trucks + 1) else s.tally.trucks }
    ∃ t, exec (.keySwitchLevelChange false straps) s = .next t ∧
      (t.journal.drained = true → s.line.access ≠ .send → EnteredStandby t) ∧
      (t.journal.drained = false ∨ s.line.access = .send →
        t.modeCtl.mode = .closing ∧ t.cal.working = s.cal.working ∧
        t.display.blankDue = s.display.blankDue ∧ t.line.inbox = s.line.inbox ∧
        t.line.access = s.line.access ∧ t.line.listening = s.line.listening ∧
        t.line.heartbeat = s.line.heartbeat ∧
        (headHoldsPass s = false → t.line = s.line)) ∧ t.modeCtl.keyOn = false ∧
      t.weigher = { s.weigher with state := .off, acc := .cleared } ∧
      t.pass = { s.pass with pending := none } ∧
      t.mail = { s.mail with
        resolutions := s.mail.resolutions + (if s.pass.pending.isSome then 1 else 0) } ∧
      t.trucks = { s.trucks with entries := [] } ∧ t.tally = figures ∧
      (headHoldsPass s = false →
        t.journal = { (s.journal.append .shiftSnapshot (figures.body (stampNow s))).1 with
          drainAsked := true }) ∧
      (∀ e rest, s.trucks.entries = e :: rest → e.passes ≠ [] →
        t.journal = { ((s.journal.append .truckClosed
            (truckClosedBody s.tally.shift e .keyOff (stampNow s))).1.append .shiftSnapshot
            (figures.body (stampNow s))).1 with drainAsked := true }) ∧
      t.display.deleteHold = none ∧ t.clock = s.clock ∧ t.cal.active = s.cal.active ∧
      t.prod = s.prod ∧ t.cycle = s.cycle) ∧
  (∀ (c : Instr) (s t : State), s.pins.resetLow = false → s.modeCtl.mode = .closing → s.closingOver = false →
    isReset c = false → c ≠ .resetLineLow → exec c s = .next t →
    EnteredStandby t ∨ (t.modeCtl.mode = .closing ∧ t.closingOver = false))

/-- JOIN (R221, step 4): the JOIN timer starts from zero and reception begins; where no frame has begun yet, the
first, with the START screen, begins with it (R221, step 3, R169; log entry 51); nothing else changes. JOIN_END
(R222): key off leads to CLOSING, or straight on to STANDBY where the journal is drained at once; PAGE and ENTER
both PRESSED lead to SERVICE, with a working copy (R37) and, by the model's inference, a change notice (log entry
38), and otherwise the part enters RUN, where the Weigher leaves OFF (R4) and the cycle hold is clear with its
timer at 0 (R126). Then the overdue test changes the shift where the open shift is overdue and the lockout stopped
(R151, R155; also after a TIME telegram taken in JOIN, log entry 47), and last, unless LISTEN_ONLY or CLASH is set,
access leaves SILENT and the first HEARTBEAT is composed as at an expiry, with its timer at 1,000 ms (R210, R216;
one that waits already is replaced, log entry 49). -/
def Obligations.JoinBeginsAndEnds : Prop :=
  (∀ s : State, s.pins.resetLow = false → s.modeCtl.mode = .start →
    let joined := { s with
      modeCtl := { s.modeCtl with mode := .join, joinTimer := 0 },
      line := { s.line with listening := true } }
    (s.display.sinceFrame.isSome = true ∨ s.display.port ≠ .free → exec .join s = .next joined) ∧
    (s.display.sinceFrame = none → s.display.port = .free →
      exec .join s = .next { joined with display := { s.display with
        image := composeFrame s, stale := false, sinceFrame := some 0, port := .shifting,
        keyMark := some (s.display.keyMark.getD 0) } })) ∧
  (∀ s : State, s.pins.resetLow = false → s.modeCtl.mode = .join →
    let pressed := (s.display.key .page).pressed = true ∧ (s.display.key .enter).pressed = true
    let control := { s.modeCtl with joinTimer := 500 }
    let overdue := s.clock.timeSet = true ∧ s.tally.openTimeSet = true ∧ s.tally.openTime ≤ stampNow s ∧
      ∃ point ∈ [s.cal.active.point1, s.cal.active.point2, s.cal.active.point3], 0 ≤ point ∧
        ∃ day : Int, s.tally.openTime < day * 86400 + point * 60 ∧ day * 86400 + point * 60 ≤ stampNow s
    let tested := fun (m t : State) => ∃ u,
      (overdue ∧ s.clock.lockout = none → ShiftChanged m u) ∧
      (¬(overdue ∧ s.clock.lockout = none) → u = m) ∧
      (muted s = true → t = u) ∧
      (muted s = false →
        exec .heartbeat { u with line := { u.line with access := .waitIdle, heartbeat := some 1000 } } =
          .next t)
    ∃ t, exec .joinEnd s = .next t ∧
      (s.modeCtl.keyOn = false →
        (t.journal.drained = true → s.line.access ≠ .send → EnteredStandby t) ∧
        (t.journal.drained = false ∨ s.line.access = .send → t.modeCtl.mode = .closing) ∧
        t.journal.drainAsked = true ∧ t.weigher.state = .off ∧
        t.cycle = s.cycle ∧ t.prod = s.prod ∧ (s.line.access = .silent → t.line.access = .silent)) ∧
      (s.modeCtl.keyOn = true → pressed →
        tested { s with
          modeCtl := { control with mode := .service },
          cal := { s.cal with working := some s.cal.active, capture := .idle },
          display := { s.display with stale := true } } t) ∧
      (s.modeCtl.keyOn = true → ¬pressed →
        tested { s with
          modeCtl := { control with mode := .run },
          weigher := { s.weigher with
            state := if s.cal.active.curves.isNone then .noCal
              else if s.weigher.lastBoom.any (fun v => v < s.cal.active.thetaLo) then .below else .above },
          cycle := { s.cycle with hold := false, timer := 0, timerSub := 0 },
          display := { s.display with stale := s.display.stale || s.cal.active.curves.isNone } } t))

/-- The modes follow one another as chapter 11 lays down: without a reset a mode leads only where R220 to R225 let
it, so no path leads from SERVICE to RUN but through CLOSING, STANDBY and a new start. -/
def Obligations.ModesFollowTheChapter : Prop :=
  ∀ (c : Instr) (s t : State), exec c s = .next t → isReset c = false →
    s.modeCtl.mode.mayLeadTo t.modeCtl.mode = true

/-! ## The Machine Line (R204 to R216) -/

/-- Every telegram the part can send is read as good by the receive checks, with its own fields: no bit of the
header, the length, the data or the CRC is dropped (R203, R204, R206, R219). -/
def Obligations.TelegramsReadBack : Prop :=
  ∀ (t : TxTelegram) (station : Nat), 1 ≤ station → station ≤ 30 → t.seq < 16 →
    t.kind.kind.allowsLength t.data.length = true →
    checkTelegram (wireOf (t.words station)) =
      .good { sender := station, kind := t.kind.kind, seq := t.seq, data := t.data }

/-- TELEGRAM_RECEIVED, the part listening and not sending, closing not over: a good telegram of another station
joins the inbox or, with four held, counts as overrun; a telegram with an error counts against its kind; one of an
unknown kind among the unknown kinds; one of the part's own number sets CLASH (R206, R207, R209, R213). -/
def Obligations.TelegramsAreTaken : Prop :=
  ∀ (chars : List WireChar) (s : State), s.pins.resetLow = false → s.line.listening = true →
    s.line.access ≠ .send → s.closingOver = false →
    (∀ r, checkTelegram chars = .good r → r.sender ≠ s.modeCtl.station → s.line.inbox.length < 4 →
      exec (.telegramReceived chars) s =
        .next { s with line := { s.line with inbox := s.line.inbox ++ [r] } }) ∧
    (∀ r, checkTelegram chars = .good r → r.sender ≠ s.modeCtl.station → 4 ≤ s.line.inbox.length →
      exec (.telegramReceived chars) s =
        .next { s with line := { s.line with overrun := min 65535 (s.line.overrun + 1) } }) ∧
    (∀ k, checkTelegram chars = .error k →
      exec (.telegramReceived chars) s = .next { s with line := { s.line with
        receiveErrors := s.line.receiveErrors.set k.idx (min 65535 (s.line.receiveErrors[k.idx] + 1)) } }) ∧
    (checkTelegram chars = .unknown →
      exec (.telegramReceived chars) s =
        .next { s with line := { s.line with unknownKinds := min 65535 (s.line.unknownKinds + 1) } }) ∧
    (∀ r, checkTelegram chars = .good r → r.sender = s.modeCtl.station → s.line.clash = false →
      exec (.telegramReceived chars) s = .next { s with
        line := { s.line with clash := true, access := .silent, queue := [], heartbeat := none },
        display := { s.display with stale := true } })

/-- The access state (R210, R211): an idle gap leads from WAIT_IDLE to DEFER with the count at 0; carrier leads
from DEFER back to WAIT_IDLE; a slot's end raises the count by one, up to 126, and where the count reaches the
front telegram's deferral, class x 32 + station, that telegram begins to be sent. The end of a transmission of the
front telegram (R212, R213). TRANSMIT_SUCCESS: it leaves the queue, consecutive collisions returns to 0 and access
to WAIT_IDLE. COLLISION: the attempts are counted; a first or second collision in a row keeps a telegram with fewer
than four failed attempts and drops one that then has four; a third sets CLASH. In CLOSING, where the journal is
drained, that end leads to STANDBY with its entry actions taken (R218, R224, R225). -/
def Obligations.TransmissionsBeginAndEnd : Prop :=
  (∀ s : State, s.pins.resetLow = false →
    (s.line.access = .waitIdle →
      exec .idleGap s = .next { s with line := { s.line with access := .defer, slotCount := 0 } }) ∧
    (s.line.access = .defer →
      exec .carrier s = .next { s with line := { s.line with access := .waitIdle } }) ∧
    (s.line.access = .defer → s.line.queue = [] →
      exec .deferSlot s =
        .next { s with line := { s.line with slotCount := min 126 (s.line.slotCount + 1) } }) ∧
    (∀ t rest, s.line.access = .defer → s.line.queue = t :: rest →
      min 126 (s.line.slotCount + 1) < t.kind.cls * 32 + s.modeCtl.station →
      exec .deferSlot s =
        .next { s with line := { s.line with slotCount := min 126 (s.line.slotCount + 1) } }) ∧
    (∀ t rest, s.line.access = .defer → s.line.queue = t :: rest →
      t.kind.cls * 32 + s.modeCtl.station ≤ min 126 (s.line.slotCount + 1) →
      exec .deferSlot s = .next { s with line := { s.line with
        slotCount := min 126 (s.line.slotCount + 1), access := .send,
        queue := { t with sending := true } :: rest } })) ∧
  (∀ (t : TxTelegram) (rest : List TxTelegram) (s : State), s.pins.resetLow = false →
    s.line.access = .send → s.line.queue = t :: rest → t.sending = true → (∀ u ∈ rest, u.sending = false) →
    let finished := s.modeCtl.mode = .closing ∧ s.journal.drainAsked = true ∧ s.journal.drained = true
    let ended := fun (u : State) => if finished then standbyOf u else u
    exec .transmitSuccess s = .next (ended { s with line := { s.line with
      queue := rest, collisions := 0, access := .waitIdle } }) ∧
    (s.line.collisions < 2 → t.attempts < 3 →
      exec .collision s = .next (ended { s with line := { s.line with
        access := .waitIdle, attempts := min 65535 (s.line.attempts + 1),
        collisions := s.line.collisions + 1,
        queue := { t with attempts := t.attempts + 1, sending := false } :: rest } })) ∧
    (s.line.collisions < 2 → 3 ≤ t.attempts →
      exec .collision s = .next (ended { s with line := { s.line with
        access := .waitIdle, attempts := min 65535 (s.line.attempts + 1),
        collisions := s.line.collisions + 1, queue := rest,
        dropped := min 65535 (s.line.dropped + 1) } })) ∧
    (2 ≤ s.line.collisions → s.line.clash = false →
      exec .collision s = .next (ended { s with
        line := { s.line with
          access := .silent, attempts := min 65535 (s.line.attempts + 1), collisions := 3,
          dropped := if t.attempts < 3 then s.line.dropped else min 65535 (s.line.dropped + 1),
          clash := true, queue := [], heartbeat := none },
        display := { s.display with stale := true } })))

/-- HEARTBEAT (R216): the timer restarts at 1,000 ms; the first HEARTBEAT of the queue that waits gets the new
contents and keeps its place, number and attempts; otherwise the new one is handed to the queue policy, and joins a
queue that has room at its place and with the next number. R216 speaks of a waiting HEARTBEAT from an earlier
expiry; that the one of the entry to RUN or SERVICE is replaced too, and only the first of two that wait, is the
model's choice (log entry 49). What it carries is the state at that moment (R217): the mode RUN, SERVICE or
CLOSING, time-set, whether the active record has curves, the degraded indication and the journal state in word 0,
the eight channel states in word 1, the open shift's number, and the four error sums, each saturating at 65,535. -/
def Obligations.HeartbeatsAreComposed : Prop :=
  ∀ s : State, s.pins.resetLow = false → s.line.heartbeat.isSome = true →
    (∀ front x back, s.line.queue = front ++ x :: back → x.kind = .heartbeat → x.sending = false →
      (∀ y ∈ front, ¬(y.kind = .heartbeat ∧ y.sending = false)) →
      exec .heartbeat s = .next { s with line := { s.line with
        heartbeat := some 1000, queue := front ++ { x with data := heartbeatData s } :: back } }) ∧
    ((∀ y ∈ s.line.queue, ¬(y.kind = .heartbeat ∧ y.sending = false)) →
      exec .heartbeat s = .next
        (transmit .heartbeat (heartbeatData s)
          { s with line := { s.line with heartbeat := some 1000 } }) ∧
      (muted s = false → s.line.queue.length < 8 →
        exec .heartbeat s = .next { s with line := { s.line with
          heartbeat := some 1000,
          queue := enqueue s.line.queue
            { kind := .heartbeat, seq := s.line.sendSeq[0], data := heartbeatData s, attempts := 0,
              sending := false },
          sendSeq := s.line.sendSeq.set 0 ((s.line.sendSeq[0] + 1) % 16) } })) ∧
    (s.modeCtl.mode = .run ∨ s.modeCtl.mode = .service ∨ s.modeCtl.mode = .closing →
      let bit := fun (b : Bool) => if b then 1 else 0
      let mode := if s.modeCtl.mode = .run then 2 else if s.modeCtl.mode = .service then 3 else 4
      let journal := if s.journal.jstate = .ok then 0 else if s.journal.jstate = .degraded then 1 else 2
      let state := fun (ch : Channel) =>
        if s.prod.channelState ch = .notLearned then 0 else if s.prod.channelState ch = .primary then 1
        else if s.prod.channelState ch = .secondary then 2 else 3
      let slots := fun (f : Slot → Nat) => (allChannels.map (fun ch =>
        f (s.prod.slot ch .primary) + f (s.prod.slot ch .secondary))).sum
      heartbeatData s = [
        BitVec.ofNat 16 (8192 * mode + 256 * bit s.clock.timeSet + 128 * bit s.cal.active.curves.isSome
          + 64 * bit s.prod.degraded + journal),
        BitVec.ofNat 16 (16384 * state .head + 4096 * state .rod + 1024 * state .boom + 256 * state .bucket
          + 64 * state .pitch + 16 * state .drive + 4 * state .time + state .truck),
        BitVec.ofNat 16 s.tally.shift,
        BitVec.ofNat 16 (min 65535 (s.line.receiveErrors.toList.sum + s.line.unknownKinds + s.line.overrun
          + s.line.dropped + s.line.attempts)),
        BitVec.ofNat 16 (min 65535 (slots (fun x => x.lost) + slots (fun x => x.duplicate)
          + slots (fun x => x.disagree) + (allChannels.map (fun ch => (s.prod.chan ch).extra)).sum
          + s.prod.skipped + s.prod.rejected)),
        BitVec.ofNat 16 (min 65535 (s.weigher.unracked + s.cal.recordRejections + s.cal.refusedSettings
          + s.clock.refusedTimes + s.trucks.refused + s.trucks.unknown)),
        BitVec.ofNat 16 (min 65535 (s.journal.lostAppends + s.journal.lostReads + s.journal.programFailures
          + s.journal.eraseFailures + s.journal.torn + s.journal.bad + s.journal.closed))])

/-- The queue policy (R214, R215), of a telegram with the current send sequence of its kind. With fewer than 8 held
it joins after the telegrams of its class and before those of a later class, so a queue ordered by class stays
ordered, and the sequence advances. A full queue drops the newcomer, which then takes no number (log entry 50), but
for a class 1 telegram that evicts the oldest class 2 telegram not being sent and joins. The queue never grows past
8. -/
def Obligations.QueuePolicy : Prop :=
  ∀ (l : LineInterface) (k : TxKind) (d : List Word), l.queue.length ≤ 8 →
    let new : TxTelegram :=
      { kind := k, seq := l.sendSeq[k.idx], data := d, attempts := 0, sending := false }
    let joined := fun (q : List TxTelegram) (dropped : Nat) => ∃ front back, q = front ++ back ∧
      (l.offer k d) = { l with
        queue := front ++ new :: back, dropped := dropped,
        sendSeq := l.sendSeq.set k.idx ((l.sendSeq[k.idx] + 1) % 16) } ∧
      (∀ x ∈ front, x.kind.cls ≤ k.cls) ∧ (∀ x ∈ back.head?, k.cls < x.kind.cls)
    (l.queue.length < 8 → joined l.queue l.dropped) ∧
    (l.queue.Pairwise (fun x y => x.kind.cls ≤ y.kind.cls) →
      (l.offer k d).queue.Pairwise (fun x y => x.kind.cls ≤ y.kind.cls)) ∧
    (l.offer k d).queue.length ≤ 8 ∧
    (l.queue.length = 8 →
      (k.cls = 2 ∨ ∀ x ∈ l.queue, x.evictable = false) →
      l.offer k d = { l with dropped := min 65535 (l.dropped + 1) }) ∧
    (∀ front x back, l.queue.length = 8 → k.cls = 1 → l.queue = front ++ x :: back →
      (∀ y ∈ front, ¬(y.kind.cls = 2 ∧ y.sending = false)) → x.kind.cls = 2 → x.sending = false →
      joined (front ++ back) (min 65535 (l.dropped + 1)))

/-- A part in LISTEN_ONLY or CLASH stays silent through every command: access SILENT, an empty queue, the HEARTBEAT
timer stopped (R213, R215, R223). -/
def Obligations.MutedStaysQuiet : Prop :=
  ∀ s t : State, s.mutedQuiet = true → step s = .next t → t.mutedQuiet = true

/-- What only a start changes: the station number, the line rate and LISTEN_ONLY, read from the straps there (R221,
R223), and CLASH, which is cleared there only (R213). Here for every command that begins no start. -/
def Obligations.OnlyStartsChange : Prop :=
  ∀ (c : Instr) (s t : State), exec c s = .next t → beginsStart c s = false →
    t.modeCtl.station = s.modeCtl.station ∧ t.modeCtl.rate = s.modeCtl.rate ∧
    t.modeCtl.listenOnly = s.modeCtl.listenOnly ∧
    (s.line.clash = true → t.line.clash = true)

/-! ## Producers and dispatch (R59 to R65, R207, R208) -/

/-- DISPATCH, closing not over: the oldest telegram leaves the inbox, and every slot of its sender hears it: its
link age restarts and its silence ends (R60, R61, R207, R208). Here for kinds that feed no channel and that no
block of the part owns. -/
def Obligations.DispatchRestartsLinkAges : Prop :=
  ∀ (r : RxTelegram) (rest : List RxTelegram) (s : State), s.pins.resetLow = false →
    s.closingOver = false → s.line.inbox = r :: rest → r.kind.channel = none →
    r.kind ≠ .settings → r.kind ≠ .journalRead →
    ∃ t, exec .dispatch s = .next t ∧ t.line = { s.line with inbox := rest } ∧
      t.prod = s.prod.hear r.sender ∧
      (∀ ch id, (s.prod.slot ch id).station = some r.sender →
        (t.prod.slot ch id).linkAge = some 0 ∧ (t.prod.slot ch id).state ≠ .silent) ∧
      (∀ ch id, (s.prod.slot ch id).station ≠ some r.sender → t.prod.slot ch id = s.prod.slot ch id) ∧
      t.weigher = s.weigher ∧ t.cal = s.cal ∧ t.trucks = s.trucks ∧ t.cycle = s.cycle ∧
      t.clock = s.clock ∧ t.tally = s.tally ∧ t.journal = s.journal ∧ t.pass = s.pass

/-- The sequence check (R62): a first or resynchronising telegram is accepted without a loss; a repeated number is
a duplicate; any other is accepted and charged (new - last - 1) mod 16. DISPATCH of a telegram of the slot's own
channel that repeats its last sequence: only the duplicate counter of the slot rises, and its link age restarts
(R60, R62). Before that a telegram of a channel is given a slot (R59): the one that holds its station, else the
first EMPTY one, slot 1 before slot 2, which takes the station and becomes ACTIVE with both ages at zero, and
otherwise it counts as an extra and is not judged. An accepted sample or DRIVE telegram gives its slot the value
and the status that R63 keeps for its channel, a value age of zero, and the state that R64 gives; TIME and TRUCK
store no value. -/
def Obligations.SlotsTakeTelegrams : Prop :=
  (∀ (x : Slot) (seq : Nat), seq < 16 →
    ((x.lastSeq = none ∨ (x.lastSeq.isSome = true ∧ x.resync = true)) →
      x.judgeSeq seq = ({ x with lastSeq := some seq, resync := false }, true)) ∧
    (∀ last, x.lastSeq = some last → x.resync = false → seq = last →
      x.judgeSeq seq = ({ x with duplicate := min 65535 (x.duplicate + 1) }, false)) ∧
    (∀ last, last < 16 → x.lastSeq = some last → x.resync = false → seq ≠ last →
      x.judgeSeq seq = ({ x with
        lastSeq := some seq,
        lost := min 65535 (x.lost + (((seq : Int) - last - 1) % 16).toNat) }, true))) ∧
  (∀ (r : RxTelegram) (rest : List RxTelegram) (ch : Channel) (s : State), s.pins.resetLow = false →
    s.closingOver = false → s.line.inbox = r :: rest → r.kind.channel = some ch →
    (s.prod.slot ch .primary).station = some r.sender →
    (s.prod.slot ch .primary).state = .active → (s.prod.slot ch .primary).resync = false →
    (s.prod.slot ch .primary).lastSeq = some r.seq →
    ∃ t, exec .dispatch s = .next t ∧
      t.prod.slot ch .primary = { s.prod.slot ch .primary with
        linkAge := some 0, duplicate := min 65535 ((s.prod.slot ch .primary).duplicate + 1) } ∧
      t.line = { s.line with inbox := rest } ∧ t.weigher = s.weigher ∧ t.cycle = s.cycle ∧
      t.trucks = s.trucks ∧ t.clock = s.clock ∧ t.cal = s.cal ∧ t.tally = s.tally ∧
      t.pass = s.pass ∧ t.journal = s.journal) ∧
  (∀ (p : ProducerTable) (ch : Channel) (sender seq : Nat) (d : List Word),
    let x1 := p.slot ch .primary
    let x2 := p.slot ch .secondary
    let sample := ch ≠ .time ∧ ch ≠ .truck
    let status := (if ch = .drive then driveFields d else sampleFields d).1
    let value := (if ch = .drive then driveFields d else sampleFields d).2
    let kept := fun (lo hi : Int) => max lo (min hi value)
    let stored : Int × Status :=
      if ch = .head ∨ ch = .rod then
        (kept 0 40000, if status = .fault then .fault
          else if status = .over ∨ 40000 < value then .over else .ok)
      else if ch = .boom then (kept (-4500) 6000, status)
      else if ch = .bucket then (kept (-9000) 9000, status)
      else if ch = .pitch then (kept (-2000) 2000, status)
      else (value, if value = 0 ∨ value = 1 ∨ value = 2 then status else .fault)
    let fresh : Slot := {
      station := some sender, state := .active, lastValue := none, lastStatus := none, lastSeq := none,
      resync := false, linkAge := some 0, valueAge := if sample then some 0 else none, lost := 0,
      duplicate := 0, disagree := 0 }
    let judged := fun (x : Slot) => if (x.judgeSeq seq).2 ∧ sample then
        { (x.judgeSeq seq).1 with
          lastValue := some stored.1, lastStatus := some stored.2, valueAge := some 0,
          state := if stored.2 = .fault then .faulty else .active }
      else (x.judgeSeq seq).1
    let t := p.take ch sender seq d
    let given := fun (x : Slot) (id : SlotId) =>
      t.2 = (if (x.judgeSeq seq).2 then some id else none) ∧
      (∀ c i, t.1.slot c i = if c = ch ∧ i = id then judged x else p.slot c i) ∧
      (∀ c, (t.1.chan c).extra = (p.chan c).extra) ∧
      t.1.skipped = p.skipped ∧ t.1.rejected = p.rejected
    let other := x1.station ≠ some sender ∧ x2.station ≠ some sender
    (x1.station = some sender → given x1 .primary) ∧
    (x1.station ≠ some sender → x2.station = some sender → given x2 .secondary) ∧
    (other → x1.state = .empty → given fresh .primary) ∧
    (other → x1.state ≠ .empty → x2.state = .empty → given fresh .secondary) ∧
    (other → x1.state ≠ .empty → x2.state ≠ .empty →
      t.2 = none ∧ (∀ c i, t.1.slot c i = p.slot c i) ∧
      (∀ c, (t.1.chan c).extra =
        if c = ch then min 65535 ((p.chan c).extra + 1) else (p.chan c).extra) ∧
      t.1.skipped = p.skipped ∧ t.1.rejected = p.rejected))

/-- The limits of a slot's ages, which touch that slot alone. LINK_SILENCE of an ACTIVE or FAULTY slot whose link
age stands at 1,000 ms: the slot is SILENT, counts one loss and is to resynchronise, and keeps its last value,
status and sequence; where a telegram taken first has restarted the age, nothing happens (R60). VALUE_STALE of a
fresh value: it is no longer fresh, and its slot no longer selectable (R65, R66). -/
def Obligations.AgesReachTheirLimits : Prop :=
  ∀ (ch : Channel) (id : SlotId) (s : State), s.pins.resetLow = false →
    tableRuns s.modeCtl.mode = true →
    (((s.prod.slot ch id).state = .active ∨ (s.prod.slot ch id).state = .faulty) →
      (s.prod.slot ch id).linkAge = some 1000 →
      ∃ t, exec (.linkSilence ch id) s = .next t ∧
        t = { s with prod := t.prod, display := { s.display with stale := t.display.stale } } ∧
        t.prod.slot ch id = { s.prod.slot ch id with
          state := .silent, lost := min 65535 ((s.prod.slot ch id).lost + 1), resync := true } ∧
        (∀ ch' id', (ch', id') ≠ (ch, id) → t.prod.slot ch' id' = s.prod.slot ch' id')) ∧
    (∀ age, (s.prod.slot ch id).linkAge = some age → age < 1000 →
      exec (.linkSilence ch id) s = .next s) ∧
    ((s.prod.slot ch id).isFresh ch = true →
      ∃ t, exec (.valueStale ch id) s = .next t ∧
        t = { s with prod := t.prod, display := { s.display with stale := t.display.stale } } ∧
        t.prod.slot ch id = { s.prod.slot ch id with valueAge := some (freshTime ch) } ∧
        (t.prod.slot ch id).isFresh ch = false ∧ (t.prod.slot ch id).selectable ch = false ∧
        (∀ ch' id', (ch', id') ≠ (ch, id) → t.prod.slot ch' id' = s.prod.slot ch' id'))

/-! ## The Weigher (R7 to R31) -/

/-- The lift force (R7): F = (P_h x A_h - P_r x A_r) / 1000, off the exact quotient by at most a half and away from
zero at a half; with pressures of 0..40,000 kPa and areas of at most 65,000 mm² it lies within 2,600,000 N of zero. -/
def Obligations.LiftForce : Prop :=
  ∀ ah ar ph pr : Int,
    let n := ph * ah - pr * ar
    (0 ≤ n → 1000 * liftForce ah ar ph pr - n ≤ 500 ∧ n - 1000 * liftForce ah ar ph pr < 500) ∧
    (n < 0 → n - 1000 * liftForce ah ar ph pr ≤ 500 ∧ 1000 * liftForce ah ar ph pr - n < 500) ∧
    (0 ≤ ph → ph ≤ 40000 → 0 ≤ pr → pr ≤ 40000 → 0 ≤ ah → ah ≤ 65000 → 0 ≤ ar → ar ≤ 65000 →
      -2600000 ≤ liftForce ah ar ph pr ∧ liftForce ah ar ph pr ≤ 2600000)

/-- The curve point of an angle (R8): in a window that is a whole multiple of 15 and at least 1,500 wide, every
angle from the window start to below the window end lies at point k in 0..14 with r in 0..w-1, and k x w + r gives
it back; the window start gives k = 0 and r = 0, one below the end k = 14 and r = w - 1. -/
def Obligations.CurvePoint : Prop :=
  ∀ (r : MachineRecord) (theta : Int), (r.thetaHi - r.thetaLo) % 15 = 0 →
    1500 ≤ r.thetaHi - r.thetaLo → r.thetaLo ≤ theta → theta < r.thetaHi →
    100 ≤ r.spacing ∧ 15 * r.spacing = r.thetaHi - r.thetaLo ∧
    0 ≤ r.pointBelow theta ∧ r.pointBelow theta ≤ 14 ∧
    0 ≤ r.pastPoint theta ∧ r.pastPoint theta ≤ r.spacing - 1 ∧
    r.thetaLo + r.pointBelow theta * r.spacing + r.pastPoint theta = theta ∧
    (theta = r.thetaLo → r.pointBelow theta = 0 ∧ r.pastPoint theta = 0) ∧
    (theta = r.thetaHi - 1 → r.pointBelow theta = 14 ∧ r.pastPoint theta = r.spacing - 1)

/-- The lift average (R26): off the exact quotient sum / count by at most a half and away from zero at a half, and
within the range of the estimates it is taken over. -/
def Obligations.LiftAverage : Prop :=
  ∀ a : Accumulator, 0 < a.count →
    let c : Int := a.count
    (0 ≤ a.sum → 2 * (c * a.average) - 2 * a.sum ≤ c ∧ 2 * a.sum - 2 * (c * a.average) < c) ∧
    (a.sum < 0 → 2 * a.sum - 2 * (c * a.average) ≤ c ∧ 2 * (c * a.average) - 2 * a.sum < c) ∧
    (-2000 * c ≤ a.sum → a.sum ≤ 25000 * c → -2000 ≤ a.average ∧ a.average ≤ 25000)

/-- DISPATCH of a HEAD telegram, closing not over (R70 to R75). Where it is not accepted, or its slot is not the
chosen source, there is no set. Where ROD, BOOM or BUCKET has no source the set is skipped and counted, and a lift
in its window ends with BOOM_LOST if BOOM is missing (R23, R24). An OVER pressure rejects the set, which is
counted. Otherwise the set takes its fields from the chosen sources. It is degraded where a secondary serves HEAD,
ROD, BOOM, BUCKET or PITCH (R73), and it disagrees where the two slots of HEAD, ROD, BOOM or PITCH are ACTIVE,
fresh and OK and differ by more than the channel's tolerance, which both slots count (R57, R74). It goes to the
Weigher in JOIN, RUN and CLOSING (R78), to an armed capture in SERVICE, and to nobody in SERVICE otherwise. -/
def Obligations.SetsAreDelivered : Prop :=
  ∀ (r : RxTelegram) (rest : List RxTelegram) (s : State), s.pins.resetLow = false →
    s.closingOver = false → s.line.inbox = r :: rest → r.kind = .head →
    let took := (s.prod.hear r.sender).take .head r.sender r.seq r.data
    let p := took.1
    let u := setProducers p { s with line := { s.line with inbox := rest } }
    let skipped := { p with skipped := min 65535 (p.skipped + 1) }
    let tooHigh := p.sourceOver .head || p.sourceOver .rod
    let x := p.sampleSet
    let compared := [Channel.head, .rod, .boom, .pitch]
    ((took.2 = none ∨ p.source .head ≠ took.2) → exec .dispatch s = .next u) ∧
    (took.2.isSome = true → p.source .head = took.2 →
      (p.missing ≠ [] → ¬(s.weigher.state = .inWindow ∧ Channel.boom ∈ p.missing) →
        exec .dispatch s = .next { u with prod := skipped }) ∧
      (Channel.boom ∈ p.missing → s.weigher.state = .inWindow →
        exec .dispatch s = .next { u with
          prod := skipped,
          weigher := { s.weigher with
            acc := .cleared,
            state := if s.weigher.lastBoom.any (fun v => v < s.cal.active.thetaLo) then .below
                     else .above },
          tally := { s.tally with aborted := min 65535 (s.tally.aborted + 1) },
          display := { s.display with
            message := some (.liftAborted .boomLost), messageTimer := some 3000, stale := true } }) ∧
      (p.missing = [] → tooHigh = true →
        exec .dispatch s = .next { u with
          prod := { p with rejected := min 65535 (p.rejected + 1) } }) ∧
      (p.missing = [] → tooHigh = false →
        p.sourceValue .head = some x.ph ∧ p.sourceValue .rod = some x.pr ∧
        p.sourceValue .boom = some x.theta ∧ p.sourceValue .bucket = some x.beta ∧
        p.sourceValue .pitch = x.phi ∧
        x.degraded = [Channel.head, .rod, .boom, .bucket, .pitch].any
          (fun ch => p.source ch == some .secondary) ∧
        x.disagree = compared.any p.disagrees ∧
        (∀ ch, p.disagrees ch = true ↔
          (∀ id, (p.slot ch id).state = .active ∧ (p.slot ch id).isFresh ch = true ∧
            (p.slot ch id).lastStatus = some .ok) ∧
          ∀ v w, (p.slot ch .primary).lastValue = some v → (p.slot ch .secondary).lastValue = some w →
            v - w < -(tolerance ch) ∨ tolerance ch < v - w) ∧
        (∀ ch id, p.countDisagreements.slot ch id = { p.slot ch id with
          disagree := if ch ∈ compared ∧ p.disagrees ch = true
            then min 65535 ((p.slot ch id).disagree + 1) else (p.slot ch id).disagree }) ∧
        p.countDisagreements.skipped = p.skipped ∧ p.countDisagreements.rejected = p.rejected ∧
        ((s.modeCtl.mode = .join ∨ s.modeCtl.mode = .run ∨ s.modeCtl.mode = .closing) →
          exec .dispatch s = .next (weigherSet x { u with prod := p.countDisagreements })) ∧
        (s.modeCtl.mode = .service → s.cal.capture = .emptyArmed ∨ s.cal.capture = .loadedArmed →
          exec .dispatch s = .next (captureSet x { u with prod := p.countDisagreements })) ∧
        (s.modeCtl.mode = .service → s.cal.capture ≠ .emptyArmed → s.cal.capture ≠ .loadedArmed →
          exec .dispatch s = .next { u with prod := p.countDisagreements })))

/-- What a sample set does to the Weigher (R14 to R20, R24 to R30). NO_CAL, OFF and HELD keep its angle only. In
ABOVE an angle below the window start leads to BELOW. In BELOW an angle in the window begins a lift if the bucket
is racked, and is an unracked entry otherwise. In IN_WINDOW the tests are REVERSE, TILT, the window end (SHORT with
fewer than 8 contributing sets), and a set that passes them contributes its estimate; at a count of 65,535 sum,
count and disagree count stay and the rest moves (R17). A complete lift is a zero lift where zero is armed;
otherwise its weight makes it an empty lift, or a pass that is handed to the Pass Unit with its fill and its
quality flags, and the Weigher stands in HELD. That a completed lift's figures stay in the accumulator until the
next clearing is the model's choice (log entry 23), and that an empty lift raises its change notice at a full count
too is its inference (log entry 38). -/
def Obligations.LiftsAreWeighed : Prop :=
  ∀ (x : SampleSet) (s : State),
    let r := s.cal.active
    let w := { s.weigher with lastBoom := some x.theta }
    let a := s.weigher.acc
    let message := fun (m : Message) => { s.display with
      message := some m, messageTimer := some 3000, stale := true }
    let aborted := fun (reason : AbortReason) => { s with
      weigher := { w with acc := .cleared, state := if x.theta < r.thetaLo then .below else .above },
      tally := { s.tally with aborted := min 65535 (s.tally.aborted + 1) },
      display := message (.liftAborted reason) }
    let reverse := x.theta < a.thMax.getD x.theta - 50 ∨ x.theta < r.thetaLo
    let tilt := x.beta < r.betaMin - 200
    let ended := fun (st : WeigherState) => { w with
      state := st, acc := { a with inputTimer := none, stallTimer := none } }
    let weight := clamp (-2000) 25000 (a.average - s.weigher.z)
    ((s.weigher.state = .noCal ∨ s.weigher.state = .off ∨ s.weigher.state = .held) →
      weigherSet x s = { s with weigher := w }) ∧
    (s.weigher.state = .above →
      weigherSet x s =
        { s with weigher := { w with state := if x.theta < r.thetaLo then .below else .above } }) ∧
    (s.weigher.state = .below →
      (x.theta < r.thetaLo → weigherSet x s = { s with weigher := w }) ∧
      (r.thetaLo ≤ x.theta → x.beta < r.betaMin →
        weigherSet x s = { s with weigher := { w with
          state := .above, unracked := min 65535 (s.weigher.unracked + 1) } }) ∧
      (r.thetaLo ≤ x.theta → r.betaMin ≤ x.beta → r.thetaHi ≤ x.theta →
        weigherSet x s = aborted .short) ∧
      (∀ c, r.curves = some c → r.thetaLo ≤ x.theta → r.betaMin ≤ x.beta → x.theta < r.thetaHi →
        weigherSet x s = { s with weigher := { w with
          state := .inWindow,
          acc := {
            sum := estimate r c x, count := 1, min := some (estimate r c x),
            max := some (estimate r c x),
            flags := { degraded := x.degraded, slope := steep x.phi, noSlope := x.phi.isNone },
            disagree := if x.disagree then 1 else 0, thMax := some x.theta,
            stallRef := some x.theta, inputTimer := some 0, stallTimer := some 0 } } })) ∧
    (s.weigher.state = .inWindow →
      (reverse → weigherSet x s = aborted .reverse) ∧
      (¬reverse → tilt → weigherSet x s = aborted .tilt) ∧
      (¬reverse → ¬tilt → r.thetaHi ≤ x.theta → a.count < 8 → weigherSet x s = aborted .short) ∧
      (∀ c lo hi top ref, r.curves = some c → ¬reverse → ¬tilt → x.theta < r.thetaHi →
        a.min = some lo → a.max = some hi → a.thMax = some top →
        a.stallRef = some ref →
        weigherSet x s = { s with weigher := { w with acc := {
          sum := if a.count < 65535 then a.sum + estimate r c x else a.sum,
          count := if a.count < 65535 then a.count + 1 else a.count,
          min := some (min lo (estimate r c x)), max := some (max hi (estimate r c x)),
          flags := {
            degraded := a.flags.degraded || x.degraded, slope := a.flags.slope || steep x.phi,
            noSlope := a.flags.noSlope || x.phi.isNone },
          disagree := if x.disagree = true ∧ a.count < 65535 then a.disagree + 1 else a.disagree,
          thMax := some (max top x.theta),
          stallRef := some (if ref + 10 ≤ max top x.theta then max top x.theta else ref),
          inputTimer := some 0,
          stallTimer := if ref + 10 ≤ max top x.theta then some 0 else a.stallTimer } } }) ∧
      (¬reverse → ¬tilt → r.thetaHi ≤ x.theta → 8 ≤ a.count →
        (s.weigher.zeroArmed = true → -1000 ≤ a.average → a.average ≤ 1000 →
          weigherSet x s = { s with
            weigher := { ended .above with zeroArmed := false, z := a.average },
            display := message .zeroSet }) ∧
        (s.weigher.zeroArmed = true → a.average < -1000 ∨ 1000 < a.average →
          weigherSet x s = { s with
            weigher := { ended .above with zeroArmed := false }, display := message .zeroTooLarge }) ∧
        (s.weigher.zeroArmed = false → weight < r.emptyThreshold →
          weigherSet x s = { s with
            weigher := ended .above,
            tally := { s.tally with empties := min 65535 (s.tally.empties + 1) },
            display := { s.display with stale := true } }) ∧
        (s.weigher.zeroArmed = false → r.emptyThreshold ≤ weight →
          weigherSet x s = { s with
            weigher := ended .held,
            pass := { s.pass with pending := some {
              weight := weight,
              fill := clamp 0 1500 (roundDiv (weight * 1000000) (r.rho s.pass.material * r.volume)),
              flags := {
                spread := decide (r.spreadLimit < a.max.getD 0 - a.min.getD 0),
                disagree := decide (a.count < a.disagree * 4),
                degraded := a.flags.degraded, slope := a.flags.slope, noSlope := a.flags.noSlope },
              samples := a.count, stamp := s.clock.calendar.toSeconds, material := s.pass.material } },
            display := { s.display with stale := true } })))

/-- What a sample set does to an armed capture (R47 to R51, R53, R54), judged by the working copy. AWAIT_BELOW
waits for the boom below the window. In AWAIT_ENTRY the entry set sends an unracked bucket back, aborts with SHORT
past the window, fails with NO_PITCH without pitch, and otherwise begins the lift and is binned. In IN_CAPTURE the
tests are REVERSE, TILT, the window end and NO_PITCH, and a set that passes them is binned: its force joins the bin
of its point where it is within 3.00 degrees of level. An abort empties the bins and keeps the capture armed. At
the window end a point with fewer than 2 sets fails the capture with GAP; otherwise the means of the bins become
the candidate F_e, or F_l with CHECK, where a span below 20,000 N fails it with SPAN, a save in progress makes it
wait, and otherwise SAVING begins and the journal is asked for a MACHINE record with the new curves. That an armed
capture holds no greatest angle before its entry set is the model's choice (log entry 37), and that a change of
phase raises a change notice its inference (log entry 38). -/
def Obligations.SetsAreCaptured : Prop :=
  ∀ (x : SampleSet) (s : State),
    let c := s.cal
    let r := c.working.getD c.active
    let count := fun (k : Nat) => (c.bins.getD k { sum := 0, count := 0 }).count
    let cleared := { c with
      bins := Vector.replicate 16 { sum := 0, count := 0 }, phase := .awaitBelow, thMax := none,
      inputTimer := none }
    let changed := { s.display with stale := true }
    let shown := fun (m : Message) => { s.display with
      message := some m, messageTimer := some 3000, stale := true }
    let aborted := fun (reason : AbortReason) =>
      { s with cal := cleared, display := shown (.captAborted reason) }
    let failed := fun (reason : CalFailure) (d : Display) => { s with
      cal := { cleared with capture := .failed reason, candEmpty := none, candLoaded := none }, display := d }
    let point := (roundDiv (x.theta - r.thetaLo) ((r.thetaHi - r.thetaLo) / 15)).toNat
    let bin := c.bins.getD point { sum := 0, count := 0 }
    let binned := fun (phi : Int) =>
      if -300 ≤ phi ∧ phi ≤ 300 ∧ bin.count < 65535 then
        c.bins.setIfInBounds point
          { sum := bin.sum + liftForce r.headArea r.rodArea x.ph x.pr, count := bin.count + 1 }
      else c.bins
    let reverse := x.theta < c.thMax.getD x.theta - 50 ∨ x.theta < r.thetaLo
    let tilt := x.beta < r.betaMin - 200
    let means := Vector.ofFn (fun i : Fin 16 => roundDiv (c.bins[i]).sum (c.bins[i]).count)
    (c.phase = .awaitBelow →
      (r.thetaLo ≤ x.theta → captureSet x s = s) ∧
      (x.theta < r.thetaLo →
        captureSet x s = { s with cal := { c with phase := .awaitEntry }, display := changed })) ∧
    (c.phase = .awaitEntry →
      (x.theta < r.thetaLo → captureSet x s = s) ∧
      (r.thetaLo ≤ x.theta → x.beta < r.betaMin →
        captureSet x s = { s with cal := { c with phase := .awaitBelow }, display := changed }) ∧
      (r.thetaLo ≤ x.theta → r.betaMin ≤ x.beta → r.thetaHi ≤ x.theta → captureSet x s = aborted .short) ∧
      (r.thetaLo ≤ x.theta → r.betaMin ≤ x.beta → x.theta < r.thetaHi →
        (x.phi = none → captureSet x s = failed .noPitch changed) ∧
        (∀ phi, x.phi = some phi →
          captureSet x s = { s with
            cal := { c with
              phase := .inCapture, thMax := some x.theta, inputTimer := some 0, bins := binned phi },
            display := changed }))) ∧
    (c.phase = .inCapture →
      (reverse → captureSet x s = aborted .reverse) ∧
      (¬reverse → tilt → captureSet x s = aborted .tilt) ∧
      (¬reverse → ¬tilt → x.theta < r.thetaHi →
        (x.phi = none → captureSet x s = failed .noPitch changed) ∧
        (∀ phi top, x.phi = some phi → c.thMax = some top →
          captureSet x s = { s with cal := { c with
            thMax := some (max top x.theta), inputTimer := some 0, bins := binned phi } })) ∧
      (¬reverse → ¬tilt → r.thetaHi ≤ x.theta →
        (∀ k, k < 16 → count k < 2 → (∀ i, i < k → 2 ≤ count i) →
          captureSet x s = failed .gap (shown (.gapAtPoint k))) ∧
        ((∀ k, k < 16 → 2 ≤ count k) →
          (c.capture = .emptyArmed →
            captureSet x s = { s with
              cal := { cleared with capture := .emptyDone, candEmpty := some means }, display := changed }) ∧
          (∀ e, c.capture = .loadedArmed → c.candEmpty = some e →
            (∀ k, k < 16 → means.getD k 0 - e.getD k 0 < 20000 →
              (∀ i, i < k → 20000 ≤ means.getD i 0 - e.getD i 0) →
              captureSet x s = failed .span (shown (.spanAtPoint k))) ∧
            ((∀ k, k < 16 → 20000 ≤ means.getD k 0 - e.getD k 0) →
              let record := { r with
                curves := some { empty := e, loaded := means, refLoad := c.candRef } }
              let saving := { cleared with working := some record, candEmpty := none, candLoaded := none }
              (c.save.isSome = true →
                captureSet x s = { s with
                  cal := { cleared with capture := .check, candLoaded := some means },
                  display := changed }) ∧
              (c.save = none → s.journal.jstate ≠ .fault → s.journal.appendQueue.length < 4 →
                captureSet x s = { s with
                  cal := { saving with capture := .saving, save := some .capture },
                  journal := (s.journal.append .machine record.body).1, display := changed }) ∧
              (c.save = none → s.journal.jstate = .fault ∨ 4 ≤ s.journal.appendQueue.length →
                captureSet x s = { s with
                  cal := { saving with capture := .failed .save },
                  journal := { s.journal with lostAppends := min 65535 (s.journal.lostAppends + 1) },
                  display := changed }))))))

/-- DISPATCH, closing not over, of a BOOM, BUCKET or DRIVE telegram (R70, R76): where it is accepted and its slot
is the chosen source of its channel, a BOOM value goes to the Weigher and to the Cycle Tracker, a BUCKET or DRIVE
value to the Cycle Tracker; where it is not, and for ROD and PITCH in every case, the Producer Table alone takes
it. The value of a BOOM telegram is clamped to -4,500..+6,000 and that of a BUCKET telegram to -9,000..+9,000 (R57,
R63). A boom value in the Weigher (R6, R14) becomes its last boom value and leads from ABOVE to BELOW where it lies
below the window. -/
def Obligations.ValuesArePassedOn : Prop :=
  (∀ (r : RxTelegram) (rest : List RxTelegram) (ch : Channel) (s : State), s.pins.resetLow = false →
    s.closingOver = false → s.line.inbox = r :: rest → r.kind.channel = some ch →
    ch ∈ [Channel.rod, .boom, .bucket, .pitch, .drive] →
    let took := (s.prod.hear r.sender).take ch r.sender r.seq r.data
    let p := took.1
    let changed := decide (p.channelStates ≠ s.prod.channelStates ∨ p.degraded ≠ s.prod.degraded)
    let u := { s with
      line := { s.line with inbox := rest }, prod := p,
      display := { s.display with stale := s.display.stale || changed } }
    (took.2 = none ∨ p.source ch ≠ took.2 → exec .dispatch s = .next u) ∧
    (ch = .rod ∨ ch = .pitch → exec .dispatch s = .next u) ∧
    (∀ v, took.2.isSome = true → p.source ch = took.2 → p.sourceValue ch = some v →
      (ch = .boom → exec .dispatch s = .next (cycleBoom v (weigherBoom v u))) ∧
      (ch = .bucket → exec .dispatch s = .next (cycleBucket v u)) ∧
      (ch = .drive → exec .dispatch s = .next (cycleDrive v u))) ∧
    (s.accepts ch r = true → took.2 = some .primary ∧
      (ch = .boom → (p.slot ch .primary).lastValue =
        some (clamp (-4500) 6000 (sampleFields r.data).2)) ∧
      (ch = .bucket → (p.slot ch .primary).lastValue =
        some (clamp (-9000) 9000 (sampleFields r.data).2)) ∧
      (ch = .drive → (p.slot ch .primary).lastValue = some (driveFields r.data).2))) ∧
  (∀ (v : Int) (s : State),
    weigherBoom v s = { s with weigher := { s.weigher with
      lastBoom := some v,
      state := if s.weigher.state = .above ∧ v < s.cal.active.thetaLo then .below
        else s.weigher.state } })

/-- INPUT_LOST and STALL in IN_WINDOW, their timer at 250 ms or 3.0 s, abort the lift (R21, R22, R24): the
accumulator is dropped, the Weigher goes to BELOW if the last boom value is below the window start and to ABOVE
otherwise, the shift counts one aborted lift, and the text stands for 3.0 s. CAPTURE_INPUT_LOST in IN_CAPTURE, its
timer at 250 ms (R49): the bins are emptied and the phase returns to AWAIT_BELOW; the capture stays armed and a
candidate is kept; that it holds no greatest angle and a stopped input timer then is the model's choice (log entry
37). Where a set taken first has restarted a timer, its expiry does nothing (R18, R48). Three timers whose commands
are their limits, whatever State's count (log entry 1): the phase timer, while hold is clear, stands at 65,535 with
LONG in the current cycle's flags (R139); the lockout stops (R154); a running message timer makes the message
absent and raises a change notice (R179). -/
def Obligations.TimersReachTheirLimits : Prop :=
  (∀ s : State, s.pins.resetLow = false →
    let shown := fun (m : Message) => { s.display with
      message := some m, messageTimer := some 3000, stale := true }
    let after := fun (m : Message) => { s with
      weigher := { s.weigher with
        acc := .cleared,
        state := if s.weigher.lastBoom.any (fun v => v < s.cal.active.thetaLo) then .below
                 else .above },
      tally := { s.tally with aborted := min 65535 (s.tally.aborted + 1) },
      display := shown m }
    (s.weigher.state = .inWindow →
      (s.weigher.acc.inputTimer = some 250 →
        exec .inputLost s = .next (after (.liftAborted .inputLost))) ∧
      (s.weigher.acc.stallTimer = some 3000 → exec .stall s = .next (after (.liftAborted .stall))) ∧
      (∀ n, s.weigher.acc.inputTimer = some n → n < 250 → exec .inputLost s = .next s) ∧
      (∀ n, s.weigher.acc.stallTimer = some n → n < 3000 → exec .stall s = .next s)) ∧
    (∀ n, s.cal.inputTimer = some n → n < 250 → exec .captureInputLost s = .next s) ∧
    ((s.cal.capture = .emptyArmed ∨ s.cal.capture = .loadedArmed) → s.cal.phase = .inCapture →
      s.cal.inputTimer = some 250 →
      exec .captureInputLost s = .next { s with
        cal := { s.cal with
          bins := Vector.replicate 16 { sum := 0, count := 0 }, phase := .awaitBelow, thMax := none,
          inputTimer := none },
        display := shown (.captAborted .inputLost) })) ∧
  (∀ s : State, s.pins.resetLow = false →
    (s.modeCtl.mode ≠ .standby → s.cycle.hold = false →
      exec .phaseTimerLimit s = .next { s with cycle := { s.cycle with
        timer := 65535,
        current := { s.cycle.current with
          flags := { s.cycle.current.flags with long := true } } } }) ∧
    exec .lockoutExpiry s = .next { s with clock := { s.clock with lockout := none } } ∧
    (s.display.messageTimer.isSome = true →
      exec .messageTimerExpiry s = .next { s with display := { s.display with
        message := none, messageTimer := none, stale := true } }))

/-- RESOLUTION_REPORT (R31): a report waiting is taken; a Weigher in HELD clears its accumulator and goes to BELOW
or ABOVE by its last boom value; in every other state the report does nothing. BOOM_BELOW_EVENT with a pass pending
(R89, R93): the pass is carried back, counted and shown, and its resolution reported; the last pass shown stays. -/
def Obligations.ResolutionEndsHeld : Prop :=
  ∀ s : State, s.pins.resetLow = false → s.modeCtl.mode ≠ .standby →
    (s.mail.resolutions ≠ 0 → s.weigher.state = .held →
      exec .resolutionReport s = .next { s with
        mail := { s.mail with resolutions := s.mail.resolutions - 1 },
        weigher := { s.weigher with
          acc := .cleared,
          state := if s.weigher.lastBoom.any (fun v => v < s.cal.active.thetaLo) then .below
                   else .above } }) ∧
    (s.mail.resolutions ≠ 0 → s.weigher.state ≠ .held →
      exec .resolutionReport s = .next { s with
        mail := { s.mail with resolutions := s.mail.resolutions - 1 } }) ∧
    (s.mail.boomBelow ≠ 0 → s.pass.pending.isSome = true →
      exec .boomBelowEvent s = .next { s with
        pass := { s.pass with pending := none },
        mail := { s.mail with
          boomBelow := s.mail.boomBelow - 1, resolutions := s.mail.resolutions + 1 },
        tally := { s.tally with carriedBack := min 65535 (s.tally.carriedBack + 1) },
        display := { s.display with
          message := some .passCarriedBack, messageTimer := some 3000, stale := true } })

/-- One pass at a time (R4, R30, R93): the Weigher is OFF exactly outside RUN; a pass is pending only in HELD, and
HELD lasts until its resolution report is taken. Every step keeps this. -/
def Obligations.OnePassIsKept : Prop :=
  ∀ s t : State, s.passLaw = true → step s = .next t → t.passLaw = true

/-! ## Calibration (R34, R43, R44, R49) -/

/-- What the journal keeps is read back whole (R187, R219): a machine record within its ranges from the body of its
MACHINE record (R34), and shift figures within their widths from the body of a shift record (R157). -/
def Obligations.RecordsReadBack : Prop :=
  (∀ r : MachineRecord, r.storable = true → MachineRecord.ofBody r.body = r) ∧
  (∀ (f : ShiftFigures) (stamp : Nat), f.inWidth = true → ShiftFigures.ofBody (f.body stamp) = f)

/-- A SETTINGS WRITE keeps every field of a record in its range, whatever the index and the value (R34, R40). What
it stores at each index is the value clamped into the field's range, and no other field changes, save that a head
area below the rod area lowers it, a window start moves the window end to a window of at least 1,500 and a whole
multiple of 15, and a window end is lowered to such a window. The answer is CLAMPED where the value at the index is
not the one asked for, or where the rod area or the window end that depends on it was changed, and ACCEPTED
otherwise. -/
def Obligations.WritesStayInRange : Prop :=
  ∀ (r : MachineRecord) (index : Nat) (v : Int), r.passes = true →
    let w := r.write index v
    let kept := fun (lo hi : Int) => max lo (min hi v)
    let start := kept (-3000) 3000
    let clamped := w.at index ≠ v ∨ (index = 1 ∧ w.rodArea ≠ r.rodArea) ∨ (index = 3 ∧ w.thetaHi ≠ r.thetaHi)
    w.passes = true ∧
    (index = 1 → w = { r with headArea := kept 1000 65000, rodArea := min r.rodArea (kept 1000 65000) }) ∧
    (index = 2 → w = { r with rodArea := kept 0 r.headArea }) ∧
    (index = 3 → w = { r with
      thetaLo := start,
      thetaHi := if r.thetaHi - start < 1500 then start + 1500
                 else start + 15 * ((r.thetaHi - start) / 15) }) ∧
    (index = 4 → w = { r with
      thetaHi := r.thetaLo + 15 * ((kept (r.thetaLo + 1500) 6000 - r.thetaLo) / 15) }) ∧
    (index = 5 → w = { r with betaMin := kept 0 9000 }) ∧
    (index = 6 → w = { r with betaDump := kept (-9000) 0 }) ∧
    (index = 7 → w = { r with volume := kept 1000 20000 }) ∧
    (index = 8 → w = { r with rho1 := kept 500 3000 }) ∧
    (index = 9 → w = { r with rho2 := kept 500 3000 }) ∧
    (index = 10 → w = { r with rho3 := kept 500 3000 }) ∧
    (index = 11 → w = { r with rho4 := kept 500 3000 }) ∧
    (index = 12 → w = { r with defaultTarget := kept 1000 200000 }) ∧
    (index = 13 → w = { r with overTolerance := kept 0 100 }) ∧
    (index = 14 → w = { r with emptyThreshold := kept 0 2000 }) ∧
    (index = 15 → w = { r with spreadLimit := kept 100 5000 }) ∧
    (index = 16 → w = { r with point1 := kept (-1) 1439 }) ∧
    (index = 17 → w = { r with point2 := kept (-1) 1439 }) ∧
    (index = 18 → w = { r with point3 := kept (-1) 1439 }) ∧
    (clamped → writeAnswer r w index v = .clamped) ∧ (¬clamped → writeAnswer r w index v = .accepted) ∧
    (List.range 18).map (fun n => w.at (n + 1)) =
      [w.headArea, w.rodArea, w.thetaLo, w.thetaHi, w.betaMin, w.betaDump, w.volume, w.rho1, w.rho2, w.rho3,
       w.rho4, w.defaultTarget, w.overTolerance, w.emptyThreshold, w.spreadLimit, w.point1, w.point2, w.point3]

/-- DISPATCH of a SETTINGS telegram, closing not over (R39 to R42). One for another station, or in LISTEN_ONLY, is
ignored. Outside SERVICE, during a save, or for an index outside 1..18 it is refused, counted and answered (a
SAVE's answer by log entry 21). A WRITE stores what R40 says in the working copy and is answered with it; an index
of 1..4 also removes the curves and sends a capture in progress back to CAL_IDLE. A SAVE asks the journal for a
MACHINE record; a request dropped at once is answered SAVE_FAILED. -/
def Obligations.SettingsAreTaken : Prop :=
  ∀ (r : RxTelegram) (rest : List RxTelegram) (s : State), s.pins.resetLow = false →
    s.closingOver = false → s.line.inbox = r :: rest → r.kind = .settings →
    let action := (settingsFields r.data).2
    let own := (settingsFields r.data).1 = s.modeCtl.station ∧ s.modeCtl.listenOnly = false
    let copy := s.cal.working.getD s.cal.active
    let quiet := { s.line with inbox := rest }
    let sent := fun (d : List Word) => (transmit .settingsAnswer d { s with line := quiet }).line
    let refused := { s.cal with refusedSettings := min 65535 (s.cal.refusedSettings + 1) }
    ∃ t, exec .dispatch s = .next t ∧ t.weigher = s.weigher ∧ t.cal.active = s.cal.active ∧
      t.tally = s.tally ∧ t.trucks = s.trucks ∧ t.cycle = s.cycle ∧ t.clock = s.clock ∧ t.pass = s.pass ∧
      (¬own → t.cal = s.cal ∧ t.line = quiet ∧ t.journal = s.journal) ∧
      (∀ index v, own → action = .write index v →
        (s.modeCtl.mode ≠ .service ∨ s.cal.save.isSome = true ∨ index < 1 ∨ 18 < index) →
        t.cal = refused ∧ t.journal = s.journal ∧
        t.line = sent (settingsAnswerData false .refused index
          ((if s.modeCtl.mode = .service then copy else s.cal.active).at index))) ∧
      (own → action = .save → (s.modeCtl.mode ≠ .service ∨ s.cal.save.isSome = true) →
        t.cal = refused ∧ t.journal = s.journal ∧ t.line = sent (settingsAnswerData true .refused 0 0)) ∧
      (∀ index v, own → action = .write index v → s.modeCtl.mode = .service → s.cal.save = none →
        1 ≤ index → index ≤ 18 →
        t.journal = s.journal ∧
        t.line = sent (settingsAnswerData false (writeAnswer copy (copy.write index v) index v) index
          ((copy.write index v).at index)) ∧
        (5 ≤ index → t.cal = { s.cal with working := some (copy.write index v) }) ∧
        (index ≤ 4 → t.cal.working = some { copy.write index v with curves := none } ∧
          (s.cal.capture.restartsOnGeometry = true →
            t.cal.capture = .idle ∧ t.cal.candEmpty = none ∧ t.cal.candLoaded = none ∧
            t.cal.bins = Vector.replicate 16 { sum := 0, count := 0 } ∧
            t.display = { s.display with
              message := some .calRestart, messageTimer := some 3000, stale := true }) ∧
          (s.cal.capture.restartsOnGeometry = false →
            t.cal = { s.cal with working := t.cal.working }))) ∧
      (own → action = .save → s.modeCtl.mode = .service → s.cal.save = none →
        (s.journal.jstate ≠ .fault → s.journal.appendQueue.length < 4 →
          t.cal = { s.cal with save := some .settings } ∧ t.line = quiet ∧
          t.journal = (s.journal.append .machine copy.body).1) ∧
        ((s.journal.jstate = .fault ∨ 4 ≤ s.journal.appendQueue.length) → s.cal.capture ≠ .check →
          t.cal = s.cal ∧ t.line = sent (settingsAnswerData true .saveFailed 0 0) ∧
          t.journal = { s.journal with lostAppends := min 65535 (s.journal.lostAppends + 1) }))

/-! ## Passes, trucks and cycles (R81 to R143) -/

/-- DUMP_EVENT with a pass pending and room in the head (R84, R86, R87, R93, R103, R104, R106): the pass joins the
head, or an anonymous head on an empty list, under the next number, and the truck's flags are judged anew; the
shift counts it with its weight; its PASS_RESULT is handed over; it becomes the last pass shown; the commit is
reported with the event's cycle tag, and the resolution to the Weigher. A TRUCK_STATE of the head follows, unless
it is the fifteenth pass: then the head closes with PASS_LIMIT, its record is asked for, the shift counts the
truck, and the one TRUCK_STATE reports it closed. -/
def Obligations.DumpCommits : Prop :=
  ∀ (tag : Nat) (rest : List Nat) (p : PassRecord) (s : State), s.pins.resetLow = false →
    s.modeCtl.mode ≠ .standby → s.mail.dumps = tag :: rest → s.pass.pending = some p →
    (headForCommit s).1.passes.length ≤ 14 →
    let e := (headForCommit s).1
    let behind := (headForCommit s).2
    let total := e.total + p.weight
    let passes := e.passes ++ [{ number := e.passes.length + 1, weight := p.weight, flags := p.flags }]
    let e' : TruckEntry := { e with
      passes := passes, total := total,
      flags := {
        overload := decide (e.target + roundDiv (e.target * s.cal.active.overTolerance) 1000 < total),
        quality := passes.any (fun q => !q.flags.isEmpty) } }
    let result := transmit .passResult
      (passResultData s.tally.shift e.identity (e.passes.length + 1) p) s
    let counted := { s.tally with
      passes := min 65535 (s.tally.passes + 1),
      payload := min 4294967295 (s.tally.payload + p.weight.toNat) }
    ∃ t, exec .dumpEvent s = .next t ∧
      t.pass = { s.pass with pending := none, lastShown := some p } ∧
      t.mail = { s.mail with
        dumps := rest, commits := s.mail.commits ++ [tag], resolutions := s.mail.resolutions + 1 } ∧
      t.weigher = s.weigher ∧ t.cycle = s.cycle ∧ t.cal = s.cal ∧ t.clock = s.clock ∧
      t.prod = s.prod ∧ t.modeCtl = s.modeCtl ∧
      (e.passes.length < 14 →
        t.trucks = { s.trucks with entries := e' :: behind } ∧ t.tally = counted ∧
        t.journal = s.journal ∧
        t.line = (transmit .truckState (truckStateData s.tally.shift e' .head
          (adviceFor (ratedLoad s) e') (behind.length + 1)) result).line) ∧
      (e.passes.length = 14 →
        t.trucks = { s.trucks with entries := behind } ∧
        t.tally = { counted with trucks := min 65535 (s.tally.trucks + 1) } ∧
        t.journal = (s.journal.append .truckClosed
          (truckClosedBody s.tally.shift e' .passLimit (stampNow s))).1 ∧
        t.line = (transmit .truckState (truckStateData s.tally.shift e' (.closed .passLimit)
          .none behind.length) result).line ∧
        t.display = { s.display with
          message := some .passLimitClosed, messageTimer := some 3000, stale := true })

/-- DUMP_EVENT and BOOM_BELOW_EVENT in CLEAR find no pass: the event is taken and nothing else changes (R88, R90). -/
def Obligations.EventsInClearDoNothing : Prop :=
  ∀ s : State, s.pins.resetLow = false → s.modeCtl.mode ≠ .standby → s.pass.pending = none →
    (∀ tag rest, s.mail.dumps = tag :: rest →
      exec .dumpEvent s = .next { s with mail := { s.mail with dumps := rest } }) ∧
    (s.mail.boomBelow ≠ 0 →
      exec .boomBelowEvent s = .next { s with
        mail := { s.mail with boomBelow := s.mail.boomBelow - 1 } })

/-- DELETE_HOLD_EXPIRY (R91, R112, R176): the hold stops; a pending pass is discarded, its resolution reported and
no figure changed; with none pending and no pass in the head, only the text is shown; otherwise the head's last
pass leaves the truck and the shift, the head's flags are judged anew and its TRUCK_STATE is handed over (R104,
R112, R121), and the last pass shown becomes absent. -/
def Obligations.DeleteHoldDeletes : Prop :=
  ∀ (held : Nat) (s : State), s.pins.resetLow = false → s.display.deleteHold = some held →
    s.modeCtl.mode = .run →
    let shown := fun (m : Message) => { s.display with
      deleteHold := none, message := some m, messageTimer := some 3000, stale := true }
    (s.pass.pending.isSome = true →
      exec .deleteHoldExpiry s = .next { s with
        pass := { s.pass with pending := none },
        mail := { s.mail with resolutions := s.mail.resolutions + 1 },
        display := shown .passDiscarded }) ∧
    (s.pass.pending = none → headHoldsPass s = false →
      exec .deleteHoldExpiry s = .next { s with display := shown .nothingToDelete }) ∧
    (∀ e rest p, s.pass.pending = none → s.trucks.entries = e :: rest → e.passes.getLast? = some p →
      let passes := e.passes.dropLast
      let total := e.total - p.weight
      let e' : TruckEntry := { e with
        passes := passes, total := total,
        flags := {
          overload := decide (e.target + roundDiv (e.target * s.cal.active.overTolerance) 1000 < total),
          quality := passes.any (fun q => !q.flags.isEmpty) } }
      exec .deleteHoldExpiry s = .next { s with
        trucks := { s.trucks with entries := e' :: rest },
        tally := { s.tally with
          passes := if s.tally.passes = 65535 then 65535 else s.tally.passes - 1,
          payload := if s.tally.payload = 4294967295 then 4294967295
                     else s.tally.payload - p.weight.toNat },
        pass := { s.pass with lastShown := none },
        line := (transmit .truckState (truckStateData s.tally.shift e' .head (adviceFor (ratedLoad s) e')
          (rest.length + 1)) s).line,
        display := shown (.passDeleted e.passes.length) })

/-- DISPATCH, in JOIN, RUN or SERVICE, of an ANNOUNCE accepted from the station that holds slot 1 of the TRUCK
channel, a first or resynchronising one among them (R62, R68, R107, R108, R109): its target is clamped to
1,000..200,000 kg. An identity not listed joins the tail of a list of fewer than four; a list of four refuses it,
counts it and says so. A listed truck keeps its place and passes and takes the target, its flags are judged anew,
and where the target has changed its TRUCK_STATE is handed over (R108, R121). -/
def Obligations.AnnouncementsAreListed : Prop :=
  ∀ (r : RxTelegram) (rest : List RxTelegram) (s : State), s.pins.resetLow = false →
    (s.modeCtl.mode = .join ∨ s.modeCtl.mode = .run ∨ s.modeCtl.mode = .service) →
    s.line.inbox = r :: rest → r.kind = .announce → s.accepts .truck r = true →
    let id := (announceFields r.data).1
    let target := clamp 1000 200000 (announceFields r.data).2
    let quiet := { s.line with inbox := rest }
    ∃ t, exec .dispatch s = .next t ∧
      t = { s with
        line := t.line, prod := t.prod, trucks := t.trucks, display := t.display } ∧
      ((∀ e ∈ s.trucks.entries, e.identity ≠ some id) →
        (s.trucks.entries.length < 4 →
          t.trucks = { s.trucks with entries := s.trucks.entries ++
            [{ identity := some id, target := target, passes := [], total := 0,
               flags := { overload := false, quality := false } }] } ∧
          t.line = quiet ∧ t.display = { s.display with stale := true }) ∧
        (4 ≤ s.trucks.entries.length →
          t.trucks = { s.trucks with refused := min 65535 (s.trucks.refused + 1) } ∧
          t.line = quiet ∧ t.display = { s.display with
            message := some .truckListFull, messageTimer := some 3000, stale := true })) ∧
      (∀ front e back, s.trucks.entries = front ++ e :: back → (∀ f ∈ front, f.identity ≠ some id) →
        e.identity = some id →
        let e' : TruckEntry := { e with
          target := target,
          flags := {
            overload := decide (target + roundDiv (target * s.cal.active.overTolerance) 1000 < e.total),
            quality := e.passes.any (fun q => !q.flags.isEmpty) } }
        t.trucks = { s.trucks with entries := front ++ e' :: back } ∧
        t.display = { s.display with stale := true } ∧
        (target = e.target → t.line = quiet) ∧
        (target ≠ e.target →
          t.line = (transmit .truckState (truckStateData s.tally.shift e'
            (if front = [] then .head else .waiting)
            (if front = [] then adviceFor (ratedLoad s) e' else .none)
            s.trucks.entries.length) { s with line := quiet }).line))

/-- DISPATCH, in JOIN, RUN or SERVICE, of an accepted DEPART from the station that holds slot 1 of the TRUCK
channel (R68, R107, R110, R113): an identity not listed is counted; an entry without passes, or one that waits,
leaves the list and nothing else happens; a head with passes closes with DEPARTED: its record is asked for, the
shift counts the truck, its TRUCK_STATE is handed over and the text stands for 3.0 s. -/
def Obligations.DeparturesAreTaken : Prop :=
  ∀ (r : RxTelegram) (rest : List RxTelegram) (s : State), s.pins.resetLow = false →
    (s.modeCtl.mode = .join ∨ s.modeCtl.mode = .run ∨ s.modeCtl.mode = .service) →
    s.line.inbox = r :: rest → r.kind = .depart → s.accepts .truck r = true →
    let id := departFields r.data
    ∃ t, exec .dispatch s = .next t ∧ t.line.inbox = rest ∧ t.pass = s.pass ∧ t.weigher = s.weigher ∧
      t.cycle = s.cycle ∧ t.cal = s.cal ∧ t.clock = s.clock ∧
      ((∀ e ∈ s.trucks.entries, e.identity ≠ some id) →
        t.trucks = { s.trucks with unknown := min 65535 (s.trucks.unknown + 1) } ∧
        t.line = { s.line with inbox := rest } ∧ t.tally = s.tally ∧ t.journal = s.journal) ∧
      (∀ front e back, s.trucks.entries = front ++ e :: back →
        (∀ f ∈ front, f.identity ≠ some id) → e.identity = some id → (front ≠ [] ∨ e.passes = []) →
        t.trucks = { s.trucks with entries := front ++ back } ∧
        t.line = { s.line with inbox := rest } ∧ t.tally = s.tally ∧ t.journal = s.journal ∧
        t.display = { s.display with stale := true }) ∧
      (∀ e back, s.trucks.entries = e :: back → e.identity = some id → e.passes ≠ [] →
        t.trucks = { s.trucks with entries := back } ∧
        t.tally = { s.tally with trucks := min 65535 (s.tally.trucks + 1) } ∧
        t.journal = (s.journal.append .truckClosed
          (truckClosedBody s.tally.shift e .departed (stampNow s))).1 ∧
        t.line = (transmit .truckState (truckStateData s.tally.shift e (.closed .departed) .none
          back.length) { s with line := { s.line with inbox := rest } }).line ∧
        t.display = { s.display with
          message := some .truckDeparted, messageTimer := some 3000, stale := true })

/-- The laws over the Truck List hold after every step (R102, R103, R106): at most four entries, no identity twice,
an anonymous entry at the head only, waiting trucks empty, each total the sum of its passes' weights, the passes
numbered from 1, and none waiting with fifteen. -/
def Obligations.TruckLawsAreKept : Prop :=
  ∀ s t : State, s.trucks.lawful = true → step s = .next t → t.trucks.lawful = true

/-- The Cycle Tracker (R126 to R140, R143). While hold is set a boom or bucket value is only kept (R126, R127).
With hold clear, a boom value that falls below the window start raises a boom-below event (R137). In DIG a boom
value in the window leads to LOADED (R128); in LOADED one below the window leads back to DIG, a re-dig that the
shift counts (R130), and one in the window that finds the bucket tipped leads to DUMP (R129). A bucket value at the
dump tilt in LOADED, the boom up, leads to DUMP with a dump event of the cycle's number (R129, R138); one above the
dump tilt by more than 200 leads from DUMP to RETURN (R131); one at the dump tilt in RETURN, the boom up and low
seen clear, is a shake (R132). In RETURN a boom value below the window sets low seen (R133), each DRIVE value moves
the drive latch (R134), and both are tested: with the boom below the window the cycle completes where the latch is
MET, and with NO_DRIVE where DRIVE has no available source (R135). A boom value in the window with low seen
completes it with NO_REVERSE, and the next cycle goes on to LOADED with a dig time of 0 (R136). A spell's count
joins its phase's time (R139). A completed cycle takes its total and time, is counted whole, reported in a CYCLE
telegram and becomes the last cycle (R140, R143). The drive latch and low seen stay through a completion by the
model's choice (log entry 46); the field timerSub is the model's own (log entry 31), and a re-dig at a full count
raises its notice too (log entry 38). -/
def Obligations.CyclesFollowTheMachine : Prop :=
  ∀ (v : Int) (s : State),
    let c := s.cycle
    let lo := s.cal.active.thetaLo
    let dump := s.cal.active.betaDump
    let up := c.lastBoom.any (fun b => lo ≤ b) = true
    let spell := fun (p : Phase) => { c with
      phase := p, timer := 0, timerSub := 0, current := c.current.addSpell c.phase c.timer }
    let spent := c.current.addSpell .ret c.timer
    let record := fun (noDrive noReverse : Bool) => { spent with
      flags := { spent.flags with
        noDrive := spent.flags.noDrive || noDrive, noReverse := spent.flags.noReverse || noReverse },
      total := spent.dig + spent.loaded + spent.dump + spent.ret, stamp := some (stampNow s) }
    let begun := fun (k : CycleTracker) (noDrive noReverse : Bool) => { k with
      phase := .dig, timer := 0, timerSub := 0,
      current := .fresh (if spent.number = 65535 then 1 else spent.number + 1),
      last := some (record noDrive noReverse), lastShift := some s.tally.shift }
    let ended := fun (k : CycleTracker) (noDrive noReverse : Bool) => { s with
      cycle := k,
      tally := { s.tally with
        cycles := min 65535 (s.tally.cycles + 1),
        cycleTimeSum :=
          min 4294967295 (s.tally.cycleTimeSum + (spent.dig + spent.loaded + spent.dump + spent.ret)),
        unweighed := if spent.flags.weighed then s.tally.unweighed
                     else min 65535 (s.tally.unweighed + 1) },
      line := (transmit .cycle (cycleData s.tally.shift (record noDrive noReverse)) s).line,
      display := { s.display with stale := true } }
    (c.hold = true →
      cycleBoom v s = { s with cycle := { c with lastBoom := some v } } ∧
      cycleBucket v s = { s with cycle := { c with lastBucket := some v } } ∧ cycleDrive v s = s) ∧
    (c.hold = false → lo ≤ v →
      (c.phase = .dig →
        cycleBoom v s = { s with cycle := { spell .loaded with lastBoom := some v } }) ∧
      (c.phase = .loaded → c.lastBucket.any (fun b => b ≤ dump) = false →
        cycleBoom v s = { s with cycle := { c with lastBoom := some v } }) ∧
      (c.phase = .loaded → c.lastBucket.any (fun b => b ≤ dump) = true →
        cycleBoom v s = { s with
          cycle := { spell .dump with lastBoom := some v },
          mail := { s.mail with dumps := s.mail.dumps ++ [c.current.number] } }) ∧
      (c.phase = .dump ∨ (c.phase = .ret ∧ c.lowSeen = false) →
        cycleBoom v s = { s with cycle := { c with lastBoom := some v } }) ∧
      (c.phase = .ret → c.lowSeen = true →
        cycleBoom v s = ended
          { begun { c with lastBoom := some v } false true with
            phase := .loaded } false true)) ∧
    (c.hold = false → v < lo →
      let mail := { s.mail with
        boomBelow := s.mail.boomBelow + (if c.lastBoom.any (fun b => lo ≤ b) then 1 else 0) }
      let low := { c with lastBoom := some v, lowSeen := true }
      (c.phase = .dig ∨ c.phase = .dump →
        cycleBoom v s = { s with cycle := { c with lastBoom := some v }, mail := mail }) ∧
      (c.phase = .loaded →
        cycleBoom v s = { s with
          cycle := { spell .dig with lastBoom := some v }, mail := mail,
          tally := { s.tally with redigs := min 65535 (s.tally.redigs + 1) },
          display := { s.display with stale := true } }) ∧
      (c.phase = .ret →
        (c.latch = .met → cycleBoom v s = { ended (begun low false false) false false with mail := mail }) ∧
        (c.latch ≠ .met → s.prod.available .drive = false →
          cycleBoom v s = { ended (begun low true false) true false with mail := mail }) ∧
        (c.latch ≠ .met → s.prod.available .drive = true →
          cycleBoom v s = { s with cycle := low, mail := mail }))) ∧
    (c.hold = false →
      (c.phase = .loaded → v ≤ dump → up →
        cycleBucket v s = { s with
          cycle := { spell .dump with lastBucket := some v },
          mail := { s.mail with dumps := s.mail.dumps ++ [c.current.number] } }) ∧
      (c.phase = .dump → dump + 200 < v →
        cycleBucket v s = { s with cycle := { spell .ret with
          lastBucket := some v, latch := .none, lowSeen := c.lastBoom.any (fun b => b < lo) } }) ∧
      (c.phase = .ret → v ≤ dump → up → c.lowSeen = false →
        cycleBucket v s = { s with cycle := { spell .dump with
          lastBucket := some v,
          current := { spent with
            shakes := min 255 (spent.shakes + 1), flags := { spent.flags with shake := true } } } }) ∧
      (c.phase = .dig ∨ (c.phase = .loaded ∧ (dump < v ∨ ¬up)) ∨ (c.phase = .dump ∧ v ≤ dump + 200) ∨
          (c.phase = .ret ∧ (dump < v ∨ ¬up ∨ c.lowSeen = true)) →
        cycleBucket v s = { s with cycle := { c with lastBucket := some v } })) ∧
    (c.hold = false →
      (c.phase ≠ .ret → cycleDrive v s = s) ∧
      (c.phase = .ret →
        let latch := match c.latch with
          | .none => if v = 2 then .reverseSeen else .none
          | .reverseSeen => if v = 1 then .met else .reverseSeen
          | .met => .met
        let moved := { c with latch := latch }
        let down := c.lastBoom.any (fun b => b < lo)
        (down = true → latch = .met → cycleDrive v s = ended (begun moved false false) false false) ∧
        (down = true → latch ≠ .met → s.prod.available .drive = false →
          cycleDrive v s = ended (begun moved true false) true false) ∧
        (down = false ∨ (latch ≠ .met ∧ s.prod.available .drive = true) →
          cycleDrive v s = { s with cycle := moved })))

/-- COMMIT_REPORT (R141): a report for the current cycle marks it WEIGHED; one for the last cycle marks that, and
takes one from the unweighed cycles when it was not marked yet and its shift is still open; one that names neither
has no effect. -/
def Obligations.CommitReportsMark : Prop :=
  ∀ (tag : Nat) (rest : List Nat) (s : State), s.pins.resetLow = false → s.modeCtl.mode ≠ .standby →
    s.mail.commits = tag :: rest →
    (tag = s.cycle.current.number →
      exec .commitReport s = .next { s with
        mail := { s.mail with commits := rest },
        cycle := { s.cycle with current := { s.cycle.current with
          flags := { s.cycle.current.flags with weighed := true } } } }) ∧
    (∀ r, tag ≠ s.cycle.current.number → s.cycle.last = some r → tag = r.number →
      exec .commitReport s = .next { s with
        mail := { s.mail with commits := rest },
        cycle := { s.cycle with last := some { r with flags := { r.flags with weighed := true } } },
        tally := { s.tally with
          unweighed :=
            if s.cycle.lastShift = some s.tally.shift ∧ r.flags.weighed = false ∧
                s.tally.unweighed ≠ 65535 then s.tally.unweighed - 1
            else s.tally.unweighed },
        display := { s.display with stale := true } }) ∧
    (tag ≠ s.cycle.current.number → (∀ r, s.cycle.last = some r → tag ≠ r.number) →
      exec .commitReport s = .next { s with mail := { s.mail with commits := rest } })

/-! ## Shift Clock and Shift Tally (R147 to R163) -/

/-- CALENDAR_SECOND, in every mode: a valid reading advances by exactly one second and stays valid, the last second
of 2099 leading to the first of 2000 with time-set cleared; the second phase restarts (R146, R147). Where the new
reading begins the minute of an enabled point, the part being in JOIN, RUN or SERVICE with time-set and the lockout
stopped, the shift changes (R151, R152, R156); otherwise nothing but the clock is touched. -/
def Obligations.CalendarCounts : Prop :=
  ∀ s : State, s.pins.resetLow = false → s.clock.calendar.isValid = true →
    let active := s.cal.active
    ∃ t u, exec .calendarSecond s = .next t ∧ u = { s with clock := u.clock } ∧
      u.clock.lockout = s.clock.lockout ∧ u.clock.refusedTimes = s.clock.refusedTimes ∧
      u.clock.calendar.isValid = true ∧
      u.clock.calendar.toSeconds = (s.clock.calendar.toSeconds + 1) % 3155760000 ∧
      u.clock.secondPhase = 0 ∧
      u.clock.timeSet = (s.clock.timeSet && decide (u.clock.calendar.toSeconds ≠ 0)) ∧
      let changes := (s.modeCtl.mode = .join ∨ s.modeCtl.mode = .run ∨ s.modeCtl.mode = .service) ∧
        u.clock.timeSet = true ∧ s.clock.lockout = none ∧
        ∃ point ∈ [active.point1, active.point2, active.point3], 0 ≤ point ∧
          (u.clock.calendar.toSeconds % 86400 : Nat) = point * 60
      (changes → ShiftChanged u t) ∧ (¬changes → t = u)

/-- DISPATCH, in JOIN, RUN or SERVICE, of an accepted TIME telegram from the station that holds slot 1 of the TIME
channel (R67, R148, R149, R153, R161). An invalid one is counted. A valid one sets time-set, and steps the calendar
if it is more than 2 s out. A forward step of at most 12 h on a calendar already set, over an occurrence of an
enabled point with the lockout stopped, changes the shift (R116, R154, R156, R160): the head with passes has
closed, the closing shift's record is asked for, the next shift is open from the new reading, the lockout runs and
its text is shown. Otherwise the shift stays, and where time-set was clear an open time not yet set moves by the
step amount. -/
def Obligations.TimesAreTaken : Prop :=
  ∀ (r : RxTelegram) (rest : List RxTelegram) (s : State), s.pins.resetLow = false →
    (s.modeCtl.mode = .join ∨ s.modeCtl.mode = .run ∨ s.modeCtl.mode = .service) →
    s.line.inbox = r :: rest → r.kind = .time → s.accepts .time r = true →
    let c := timeFields r.data
    let old : Int := s.clock.calendar.toSeconds
    let d : Int := c.toSeconds - old
    let active := s.cal.active
    let clock := { s.clock with
      calendar := if d < -2 ∨ 2 < d then c else s.clock.calendar,
      secondPhase := if d < -2 ∨ 2 < d then 0 else s.clock.secondPhase, timeSet := true }
    let changes := s.clock.timeSet = true ∧ s.clock.lockout = none ∧ 2 < d ∧ d ≤ 43200 ∧
      ∃ point ∈ [active.point1, active.point2, active.point3], 0 ≤ point ∧
        ∃ day : Int, old < day * 86400 + point * 60 ∧ day * 86400 + point * 60 ≤ old + d
    ∃ t, exec .dispatch s = .next t ∧ t.line.inbox = rest ∧ t.pass = s.pass ∧ t.weigher = s.weigher ∧
      t.cycle = s.cycle ∧ t.cal = s.cal ∧
      (c.isValid = false →
        t.clock = { s.clock with refusedTimes := min 65535 (s.clock.refusedTimes + 1) } ∧
        t.tally = s.tally ∧ t.trucks = s.trucks ∧ t.journal = s.journal) ∧
      (c.isValid = true → changes →
        ShiftChanged { s with clock := clock, line := { s.line with inbox := rest }, prod := t.prod } t) ∧
      (c.isValid = true → ¬changes →
        t.clock = clock ∧ t.trucks = s.trucks ∧ t.journal = s.journal ∧
        ((s.clock.timeSet = true ∨ s.tally.openTimeSet = true) → t.tally = s.tally) ∧
        (s.clock.timeSet = false → s.tally.openTimeSet = false → 0 ≤ s.tally.openTime + d →
          s.tally.openTime + d < 3155760000 →
          t.tally = { s.tally with
            openTime := (s.tally.openTime + d).toNat, openTimeSet := true }))

/-- A shift changes, but for a start, only in JOIN, RUN or SERVICE, with time-set and the lockout stopped, and the
change starts the lockout at 60 min (R151, R154, R156). -/
def Obligations.ShiftChangesAreLockedOut : Prop :=
  ∀ (c : Instr) (s t : State), exec c s = .next t → beginsStart c s = false →
    t.tally.shift ≠ s.tally.shift →
    (s.modeCtl.mode = .join ∨ s.modeCtl.mode = .run ∨ s.modeCtl.mode = .service) ∧
    s.clock.lockout = none ∧ t.clock.timeSet = true ∧ t.clock.lockout = some 3600000

/-- Unweighed cycles never exceed cycles (R159): every command but one that begins a start keeps it. -/
def Obligations.UnweighedWithinCycles : Prop :=
  ∀ (c : Instr) (s t : State), exec c s = .next t → beginsStart c s = false →
    s.tally.unweighed ≤ s.tally.cycles → s.tally.cycles ≤ 65535 →
    t.tally.unweighed ≤ t.tally.cycles ∧ t.tally.cycles ≤ 65535

/-! ## Display and keys (R167 to R179) -/

/-- FRAME_BEGIN begins a frame exactly where one is due: outside STANDBY, with the port FREE, and with no frame
begun yet, 100 ms since the last frame start, or the stale mark set and 20 ms since then. The image is composed and
fixed, the stale mark clears, the start is recorded and the port is SHIFTING; the first frame starts the key
schedule. FRAME_LATCH with a frame in flight: the whole image moves to the glass and the port is FREE. A key read
that waits is made then: where no key can act, or none changes, each key takes its level by R174, and in RUN and
SERVICE the read is that of a KEY_READ with the levels that wait, but for the key schedule, whose marks keep their
places (R172 to R177; log entry 19). BLANK_FRAME, once in STANDBY with the port FREE and 20 ms since the last frame
start: forty spaces, no segments, dark lamps, bar mode 0, and the display's timers rest; in one step, by the
model's choice (log entry 28). Nothing else changes (R167, R168, R169, R172). -/
def Obligations.FramesBeginAndLatch : Prop :=
  ∀ s : State, s.pins.resetLow = false →
    let d := s.display
    (d.port = .free → s.modeCtl.mode ≠ .standby →
      (∀ t, d.sinceFrame = some t → 100 ≤ t ∨ (d.stale = true ∧ 20 ≤ t)) →
      exec .frameBegin s = .next { s with display := { d with
        image := composeFrame s, stale := false, sinceFrame := some 0, port := .shifting,
        keyMark := some (d.keyMark.getD 0) } }) ∧
    ((d.port ≠ .free ∨ s.modeCtl.mode = .standby ∨
        ∃ t, d.sinceFrame = some t ∧ t < 100 ∧ (d.stale = false ∨ t < 20)) →
      exec .frameBegin s = .next s) ∧
    let latched := { s with display := { d with glass := some d.image, image := [], port := .free } }
    let scanned := fun (i : Fin 8) => (d.keys[i]).scan (s.pins.keyLevels.getLsbD i.val)
    (d.port = .shifting → d.readWaiting = false → exec .frameLatch s = .next latched) ∧
    (d.port = .shifting → d.readWaiting = true → d.sinceFrame.isSome = true →
      ((s.modeCtl.mode ≠ .run ∧ s.modeCtl.mode ≠ .service ∧
          (s.modeCtl.mode = .standby → d.blankDue = true)) ∨
        ((s.modeCtl.mode = .run ∨ s.modeCtl.mode = .service) ∧
          ∀ i, (scanned i).pressed = (d.keys[i]).pressed)) →
      exec .frameLatch s = .next { latched with display := { latched.display with
        readWaiting := false, keys := Vector.ofFn scanned,
        deleteHold :=
          if (d.key .delete).pressed = true ∧ (scanned 3).pressed = false then none
          else d.deleteHold } }) ∧
    (d.port = .shifting → d.readWaiting = true → d.sinceFrame.isSome = true →
      s.modeCtl.mode = .run ∨ s.modeCtl.mode = .service → frameDue latched = false →
      ∃ t, exec (.keyRead s.pins.keyLevels) latched = .next t ∧
        exec .frameLatch s = .next { t with display := { t.display with keyMark := d.keyMark } }) ∧
    (s.modeCtl.mode = .standby → d.blankDue = true → d.port = .free →
      (∀ t, d.sinceFrame = some t → 20 ≤ t) →
      exec .blankFrame s = .next { s with display := { d with
        glass := some (List.replicate 40 32#8 ++ [0#8, 0#8, 0#8]), image := [], blankDue := false,
        stale := false, messageTimer := none, deleteHold := none, readWaiting := false } }) ∧
    ((s.modeCtl.mode ≠ .standby ∨ d.blankDue = false ∨ d.port ≠ .free ∨
        ∃ t, d.sinceFrame = some t ∧ t < 20) →
      exec .blankFrame s = .next s)

/-- Every frame is well formed (R167): 43 bytes; the forty of the lines are codes of the character table; at most
20 segments; lamp bits 6 and 7 and bar mode bits 1 to 7 are 0. A message that is present stands on line 2 (R179).
Each lamp follows its owner (R184): the head's OVERLOAD, the head's advice LAST PASS (R118), a filled slot SILENT
or FAULTY (R69), NO_CAL, the journal's FAULT and CLASH. The bar shows the fill of the pending pass, or else of the
last pass shown, one segment for each 50 permille, and blinks above 1,100; with no pass it is empty (R99, R181). -/
def Obligations.FramesAreWellFormed : Prop :=
  ∀ s : State, (composeFrame s).length = 43 ∧
    (∀ b ∈ (composeFrame s).take 40, isCharCode b = true) ∧
    ((composeFrame s).getD 40 0#8).toNat ≤ 20 ∧
    (composeFrame s).getD 41 0#8 &&& 0xC0#8 = 0#8 ∧
    (composeFrame s).getD 42 0#8 &&& 0xFE#8 = 0#8 ∧
    (∀ m, s.display.message = some m → ((composeFrame s).drop 20).take 20 = lineOf m.text) ∧
    let lamp := fun (n : Nat) => ((composeFrame s).getD 41 0#8).getLsbD n = true
    let segments := ((composeFrame s).getD 40 0#8).toNat
    let blinks := ((composeFrame s).getD 42 0#8).getLsbD 0 = true
    let figure := s.pass.pending.or s.pass.lastShown
    (lamp 0 ↔ ∃ e back, s.trucks.entries = e :: back ∧ e.flags.overload = true) ∧
    (lamp 1 ↔ ∃ e back, s.trucks.entries = e :: back ∧ 0 < e.target - e.total ∧
      e.target - e.total < roundDiv (s.cal.active.rho s.pass.material * s.cal.active.volume) 1000) ∧
    (lamp 2 ↔ ∃ ch id, (s.prod.slot ch id).state = .silent ∨ (s.prod.slot ch id).state = .faulty) ∧
    (lamp 3 ↔ s.weigher.state = .noCal) ∧ (lamp 4 ↔ s.journal.jstate = .fault) ∧
    (lamp 5 ↔ s.line.clash = true) ∧
    (∀ p, figure = some p →
      (p.fill < 1000 → segments = (p.fill / 50).toNat) ∧ (1000 ≤ p.fill → segments = 20) ∧
      (blinks ↔ 1100 < p.fill)) ∧
    (figure = none → segments = 0 ∧ ¬blinks)

/-- A debounced level changes on the third equal scan in a row and on no earlier one (R174): three scans at a level
set it, whatever went before, and after a scan at the other level the first two leave it. KEY_READ in START, JOIN
and CLOSING (R172 to R177): with the port FREE and no frame due each key takes its own level by R174 and no key
acts; a DELETE that is released stops its hold. With a frame in flight the read waits, and a frame due at the same
moment goes first (R172); a read that waits takes the levels given (log entry 19). -/
def Obligations.KeysAreDebounced : Prop :=
  (∀ (x : KeyState) (level : Bool),
    (((x.scan level).scan level).scan level).pressed = level ∧
    (x.lastScan ≠ some level →
      (x.scan level).pressed = x.pressed ∧ ((x.scan level).scan level).pressed = x.pressed)) ∧
  (∀ (levels : BitVec 8) (s : State), s.pins.resetLow = false → s.display.sinceFrame.isSome = true →
    (s.modeCtl.mode = .start ∨ s.modeCtl.mode = .join ∨ s.modeCtl.mode = .closing) →
    (s.display.port = .free → frameDue s = false →
      exec (.keyRead levels) s = .next { s with
        pins := { s.pins with keyLevels := levels },
        display := { s.display with
          keyMark := some 0, readWaiting := false,
          keys := Vector.ofFn (fun i : Fin 8 => (s.display.keys[i]).scan (levels.getLsbD i.val)),
          deleteHold :=
            if (s.display.key .delete).pressed = true ∧
                ((s.display.key .delete).scan (levels.getLsbD 3)).pressed = false then none
            else s.display.deleteHold } }) ∧
    (frameDue s = true →
      exec (.keyRead levels) s = .next { s with
        pins := { s.pins with keyLevels := levels },
        display := { s.display with
          image := composeFrame s, stale := false, sinceFrame := some 0, port := .shifting,
          keyMark := some 0, readWaiting := true } }) ∧
    (s.display.port ≠ .free →
      exec (.keyRead levels) s = .next { s with
        pins := { s.pins with keyLevels := levels },
        display := { s.display with keyMark := some 0, readWaiting := true } }))

/-- KEY_READ in RUN and SERVICE with the port FREE and no frame due, where one key becomes PRESSED and no other
changes (R173 to R177). PAGE shows the next page (R178) and MATERIAL selects the next material, a pending pass
taking it (R82, R83), in both modes. In RUN, ZERO arms or disarms the zero (R32), NEXT closes, moves or removes the
head (R111, R113), DELETE starts its hold (R176), UP and DOWN move the item of the STATUS page (R183), and ENTER
clears a message (R179). In SERVICE, UP and DOWN move the reference entry value by 100 kg, ENTER takes the capture
on (R45, R52 to R55), and ZERO, NEXT and DELETE do nothing. A capture that is cancelled stands in phase
AWAIT_BELOW, and an armed one holds no greatest angle and a stopped input timer, by the model's choice (log entry
37); UP and DOWN raise the change notice where the clamp leaves the reference entry value as it was too, by its
inference (log entry 38). -/
def Obligations.KeysAct : Prop :=
  ∀ (levels : BitVec 8) (k : Key) (s : State), s.pins.resetLow = false →
    s.display.sinceFrame.isSome = true → s.display.port = .free → frameDue s = false →
    (s.display.key k).pressed = false →
    ((s.display.key k).scan (levels.getLsbD (keyIdx k).val)).pressed = true →
    (∀ j, j ≠ k →
      ((s.display.key j).scan (levels.getLsbD (keyIdx j).val)).pressed = (s.display.key j).pressed) →
    let u := { s with
      pins := { s.pins with keyLevels := levels },
      display := { s.display with
        keyMark := some 0, readWaiting := false,
        keys := Vector.ofFn (fun i : Fin 8 => (s.display.keys[i]).scan (levels.getLsbD i.val)) } }
    let shown := fun (m : Message) => { u.display with
      message := some m, messageTimer := some 3000, stale := true }
    let read := exec (.keyRead levels) s
    let cleared := { s.cal with
      bins := Vector.replicate 16 { sum := 0, count := 0 }, phase := .awaitBelow, thMax := none,
      inputTimer := none }
    ((s.modeCtl.mode = .run ∨ s.modeCtl.mode = .service) →
      (k = .page →
        read = .next { u with display := { u.display with
          stale := true,
          page := match s.display.page with
            | .load => .bucket | .bucket => .shift | .shift => .status | .status => .load } }) ∧
      (k = .material →
        let m := match s.pass.material with
          | .m1 => Material.m2 | .m2 => .m3 | .m3 => .m4 | .m4 => .m1
        read = .next { u with
          pass := { s.pass with
            material := m,
            pending := s.pass.pending.map (fun p =>
              { p with material := m, fill := passFill s.cal.active m p.weight }) },
          display := shown (.material m (s.cal.active.rho m)) })) ∧
    (s.modeCtl.mode = .run →
      (k = .zero → s.weigher.state = .noCal → read = .next { u with display := shown .noCalibration }) ∧
      (k = .zero → s.weigher.state ≠ .noCal → s.weigher.state ≠ .off →
        read = .next { u with
          weigher := { s.weigher with zeroArmed := !s.weigher.zeroArmed },
          display := shown (if s.weigher.zeroArmed then .zeroCancelled else .zeroArmed) }) ∧
      (k = .delete → read = .next { u with display := { u.display with deleteHold := some 0 } }) ∧
      (k = .up ∨ k = .down → s.display.page ≠ .status → read = .next u) ∧
      (k = .up → s.display.page = .status →
        read = .next { u with display := { u.display with
          stale := true,
          statusItem := if s.display.statusItem ≤ 1 then 7 else s.display.statusItem - 1 } }) ∧
      (k = .down → s.display.page = .status →
        read = .next { u with display := { u.display with
          stale := true,
          statusItem := if 7 ≤ s.display.statusItem then 1 else s.display.statusItem + 1 } }) ∧
      (k = .enter → s.display.message = none → read = .next u) ∧
      (k = .enter → s.display.message.isSome = true →
        read = .next { u with display := { u.display with
          message := none, messageTimer := none, stale := true } }) ∧
      (k = .next → s.trucks.entries = [] → read = .next { u with display := shown .noTruck }) ∧
      (∀ e rest, k = .next → s.trucks.entries = e :: rest →
        (e.passes = [] → e.identity = none →
          read = .next { u with
            trucks := { s.trucks with entries := rest }, display := shown .truckRemoved }) ∧
        (e.passes = [] → e.identity.isSome = true → rest = [] →
          read = .next { u with display := shown .noPasses }) ∧
        (e.passes = [] → e.identity.isSome = true → rest ≠ [] →
          read = .next { u with
            trucks := { s.trucks with entries := rest ++ [e] }, display := shown .truckToEnd }) ∧
        (e.passes ≠ [] →
          read = .next { u with
            trucks := { s.trucks with entries := rest },
            tally := { s.tally with trucks := min 65535 (s.tally.trucks + 1) },
            journal := (s.journal.append .truckClosed
              (truckClosedBody s.tally.shift e .next (stampNow s))).1,
            line := (transmit .truckState (truckStateData s.tally.shift e (.closed .next) .none
              rest.length) s).line,
            display := shown .truckClosed }))) ∧
    (s.modeCtl.mode = .service →
      (k = .zero ∨ k = .next ∨ k = .delete → read = .next u) ∧
      (k = .up ∨ k = .down → s.cal.capture ≠ .refEntry → read = .next u) ∧
      (k = .up ∨ k = .down → s.cal.capture = .refEntry →
        read = .next { u with
          cal := { s.cal with
            refEntry := clamp 1000 25000 (s.cal.refEntry + (if k = .up then 100 else -100)) },
          display := { u.display with stale := true } }) ∧
      (k = .enter →
        (s.cal.capture = .idle ∨ s.cal.capture = .refEntry → s.prod.available .pitch = false →
          read = .next { u with display := shown .calRefusedNoPitch }) ∧
        (s.cal.capture = .idle → s.prod.available .pitch = true →
          read = .next { u with
            cal := { cleared with capture := .emptyArmed },
            display := { u.display with stale := true } }) ∧
        (s.cal.capture = .emptyDone →
          read = .next { u with
            cal := { s.cal with capture := .refEntry },
            display := { u.display with stale := true } }) ∧
        (s.cal.capture = .refEntry → s.prod.available .pitch = true →
          read = .next { u with
            cal := { cleared with capture := .loadedArmed, candRef := s.cal.refEntry },
            display := { u.display with stale := true } }) ∧
        (s.cal.capture = .emptyArmed ∨ s.cal.capture = .loadedArmed →
          read = .next { u with
            cal := { cleared with capture := .idle, candEmpty := none, candLoaded := none },
            display := shown .calCancelled }) ∧
        (s.cal.capture = .check ∨ s.cal.capture = .saving → read = .next u) ∧
        (s.cal.capture = .done ∨ (∃ reason, s.cal.capture = .failed reason) →
          read = .next { u with
            cal := { s.cal with capture := .idle },
            display := { u.display with stale := true } })))

/-! ## The Tally Journal (R186 to R202) -/

/-- The array's work (R190 to R192). An append request is dropped and counted in FAULT or where four are queued,
and joins the tail otherwise. A record is placed at the fill of the ACTIVE sector where it fits, else at word 0 of
the next sector where that is ERASED, with no ACTIVE sector at word 0 of the first ERASED sector of the rotation,
and waits otherwise. An array with a record in its program or a read being served goes on with it. A free one takes
the front copy of the carry list that can be placed, else the head of the append queue that can, else the oldest
read, else the erase, and is IDLE otherwise; an erase begun is held meanwhile. A record begun takes its sequence
number where it has none (R188), and the sector it enters is ACTIVE from then on, the former one FULL. A copy
without a place is passed over, and the rotation with no ACTIVE sector takes in the last ACTIVE one itself, last,
both by the model's inference (log entries 15 and 17); the next-sequence number stays at its limit (log entry 13),
and an array that serves a read with no erase held is IDLE, both by the model's choice (log entry 53). -/
def Obligations.ArrayTakesWork : Prop :=
  ∀ j : Journal,
    (∀ (kind : RecordKind) (body : List Word),
      (j.jstate = .fault ∨ 4 ≤ j.appendQueue.length →
        j.append kind body = ({ j with lostAppends := min 65535 (j.lostAppends + 1) }, false)) ∧
      (j.jstate ≠ .fault → j.appendQueue.length < 4 →
        j.append kind body = (Journal.pump { j with
          appendQueue := j.appendQueue ++ [{ kind := kind, body := body, seq := none }] }, true))) ∧
    (∀ len : Nat,
      (∀ a, j.active = some a →
        (len ≤ 1024 - j.fill → j.place len = some (a, j.fill)) ∧
        (∀ n, 1024 - j.fill < len → j.nextSector a = some n →
          j.place len = if j.sector n = .erased then some (n, 0) else none)) ∧
      (j.active = none → ∀ front n back, rotationAfter j.lastActive = front ++ n :: back →
        (∀ m ∈ front, j.sector m ≠ .erased) → j.sector n = .erased → j.place len = some (n, 0)) ∧
      (j.active = none → (∀ n, n < 4 → j.sector n ≠ .erased) → j.place len = none)) ∧
    let copy := j.carry.head?.bind (fun c => (j.place (c.body.length + 4)).map (fun p => (c, p)))
    let request := j.appendQueue.head?.bind (fun q => (j.place (q.body.length + 4)).map (fun p => (q, p)))
    let holding := j.op = .erasing ∨ j.op = .eraseSuspended
    let t := j.pump
    let began := fun (fromCarry : Bool) (kind : RecordKind) (body : List Word) (taken : Option Nat)
        (sector word : Nat) =>
      t.job = some { fromCarry := fromCarry, sector := sector, addr := word, kind := kind,
                     seq := taken.getD j.nextSeq, words := recordWords kind (taken.getD j.nextSeq) body } ∧
      t.nextSeq = (if taken.isSome then j.nextSeq else min 4294967295 (j.nextSeq + 1)) ∧
      t.op = (if holding then .eraseSuspended else .programming) ∧ t.store = j.store ∧
      t.readable = j.readable ∧ t.readQueue = j.readQueue ∧ t.eraseSector = j.eraseSector ∧
      t.target = j.target ∧
      (j.active = some sector → t.sectors = j.sectors ∧ t.fill = j.fill ∧ t.mark = j.mark) ∧
      (j.active ≠ some sector → t.fill = 0 ∧ t.lastActive = sector ∧ t.mark = false ∧
        ∀ n, n < 4 → t.sector n =
          if n = sector then .active else if j.active = some n then .full else j.sector n)
    (j.job.isSome = true ∨ j.serving.isSome = true → t = j) ∧
    (j.job = none → j.serving = none →
      (∀ c sector word, copy = some (c, sector, word) →
        began true c.kind c.body c.seq sector word ∧ t.appendQueue = j.appendQueue ∧
        t.carry = { c with seq := some (c.seq.getD j.nextSeq) } :: j.carry.tail) ∧
      (∀ q sector word, copy = none → request = some (q, sector, word) →
        began false q.kind q.body q.seq sector word ∧ t.carry = j.carry ∧
        t.appendQueue = { q with seq := some (q.seq.getD j.nextSeq) } :: j.appendQueue.tail) ∧
      (∀ r rest, copy = none → request = none → j.readQueue = r :: rest →
        t = { j with
          serving := some r, readQueue := rest, op := if holding then .eraseSuspended else .idle }) ∧
      (copy = none → request = none → j.readQueue = [] →
        t = { j with op := if j.eraseSector.isSome then .erasing else .idle }))

/-- Erase-ahead and carry-forward (R193, R194). While a sector is ERASING it is deferred. Otherwise it is marked,
and its target is the next sector after the ACTIVE one: an ERASED one completes it; a FULL one gives the carry list
a copy of the latest MACHINE record and of the latest shift record where they lie in it and have no copy in the
list yet (R196), in the order of their numbers, a snapshot's copy with the later truck records of its shift folded
in, and it is erased at once where no copy is needed; where the copies do not fit behind the fill the ACTIVE sector
is closed and the no-ACTIVE case taken. With no ACTIVE sector the first of the rotation that is ERASED, or FULL
without either latest record, is the target, and where there is none the journal state is judged: FAULT by R197's
condition, which drops every request, counted, and every copy, DEGRADED with a sector FAULTED, and never better
before the next start. By the model's inference the rotation takes in the last ACTIVE sector itself, last (log
entry 17), a snapshot's copy folds in the truck records as they stand when it is listed (log entry 34), and the
copies that FAULT drops are not counted (log entry 39). -/
def Obligations.EraseAheadCarriesForward : Prop :=
  ∀ j : Journal,
    let m := { j with mark := true, deferred := false }
    let erasing := fun (k : Journal) (n : Nat) => { k with
      sectors := k.sectors.setIfInBounds n .erasing,
      readable := k.readable.filter (fun r => r.sector != n), eraseSector := some n, eraseTime := 0,
      target := none }
    let usable := fun (k : Journal) (n : Nat) =>
      k.sector n = .erased ∨ (k.sector n = .full ∧ k.holdsLatest n = false)
    let noActive := fun (k t : Journal) =>
      (∀ front n back, rotationAfter k.lastActive = front ++ n :: back → (∀ i ∈ front, ¬usable k i) →
        usable k n → t = if k.sector n = .erased then k else erasing k n) ∧
      ((∀ n, n < 4 → ¬usable k n) → t = k.judge)
    let latest := fun (r : RecordRef) => j.latestMachine = some r ∨ j.latestShift = some r
    let judged := j.judge
    let faulted := fun (n : Nat) => j.sector n = .faulted
    let fault := ([0, 1, 2, 3].filter (fun n => j.sector n != .faulted)).length < 2 ∨
      ((∀ n, n < 4 → j.sector n ≠ .active ∧ j.sector n ≠ .erased ∧ j.sector n ≠ .erasing) ∧
        ∀ n, n < 4 → j.sector n = .full → ∃ r, latest r ∧ r.sector = n)
    (j.anyErasing = true → j.beginEraseAhead = { j with deferred := true }) ∧
    (j.anyErasing = false →
      (j.active = none → noActive m j.beginEraseAhead) ∧
      (∀ a n, j.active = some a → j.nextSector a = some n →
        (j.sector n = .erased → j.beginEraseAhead = m) ∧
        (j.sector n = .active → j.beginEraseAhead = m.judge) ∧
        (j.sector n = .full →
          let carry := j.carry ++ j.newCopies n
          (copyWords carry ≤ 1024 - j.fill → carry = [] → j.beginEraseAhead = erasing m n) ∧
          (copyWords carry ≤ 1024 - j.fill → carry ≠ [] →
            j.beginEraseAhead = { m with carry := carry, target := some n }) ∧
          (1024 - j.fill < copyWords carry →
            noActive { m with sectors := j.sectors.setIfInBounds a .full } j.beginEraseAhead)))) ∧
    (∀ n, (∀ c ∈ j.newCopies n, c.seq = none ∧ (∀ d ∈ j.carry, d.original ≠ c.original) ∧
        ∃ r, latest r ∧ r.sector = n ∧ c.original = r.seq ∧ c.kind = r.kind ∧
          (r.kind ≠ .shiftSnapshot → c.body = j.bodyOf r) ∧
          (r.kind = .shiftSnapshot →
            let f := ShiftFigures.ofBody (j.bodyOf r)
            let later := j.readable.filter (fun q =>
              q.kind == .truckClosed && decide (r.seq < q.seq)
                && (truckClosedFigures (j.bodyOf q)).1 == f.shift)
            let figures := later.map (fun q => (truckClosedFigures (j.bodyOf q)).2)
            c.body = ({ f with
              passes := min 65535 (f.passes + (figures.map (fun x => x.1)).sum),
              trucks := min 65535 (f.trucks + later.length),
              payload := min 4294967295 (f.payload + (figures.map (fun x => x.2)).sum)
              } : ShiftFigures).body (long (j.bodyOf r) 16).toNat)) ∧
      (∀ r, latest r → r.sector = n → ∃ c ∈ j.carry ++ j.newCopies n, c.original = r.seq) ∧
      (j.newCopies n).length ≤ 2 ∧
      (j.newCopies n).Pairwise (fun c d => c.original ≤ d.original)) ∧
    (∀ r, j.latestMachine = some r → r ∈ j.readable ∧ r.kind = .machine ∧
      ∀ q ∈ j.readable, q.kind = .machine → q.seq ≤ r.seq) ∧
    (∀ r, j.latestShift = some r → r ∈ j.readable ∧ r.kind.isShift = true ∧
      ∀ q ∈ j.readable, q.kind.isShift = true → q.seq ≤ r.seq) ∧
    (j.jstate = .fault → judged = j) ∧
    (j.jstate ≠ .fault → fault → judged = { j with
      jstate := .fault, lostAppends := min 65535 (j.lostAppends + j.appendQueue.length),
      appendQueue := [], carry := [], target := none }) ∧
    (j.jstate ≠ .fault → ¬fault →
      ((∃ n, n < 4 ∧ faulted n) → judged = { j with jstate := .degraded }) ∧
      ((∀ n, n < 4 → ¬faulted n) → judged = j))

/-- JOURNAL_RECORD_WRITTEN of a verified record or copy (R191): it leaves its list, the words stand in the array,
it joins the readable set, and the fill advances. With the last copy written the target leaves the readable set and
its erase is due (R194); a fill of 768 or more begins erase-ahead once (R193); then the array takes its next work.
But for a MACHINE record asked for by a save no other block is touched. That one ends its save (R33, R43, R44): the
working copy becomes active, the zero offset is 0, the reference entry value takes the record's reference load, and
a SETTINGS SAVE is answered SAVED, while a save from SAVING leads to CAL_DONE; a capture that waited in CHECK
behind a SETTINGS SAVE goes to SAVING with its curves in the working copy (R53, R54); that it raises a change
notice whatever it changes is the model's inference (log entry 38). In CLOSING the last record drains the journal,
and with no transmission in progress the part enters STANDBY, its entry actions taken (R202, R224, R225). -/
def Obligations.RecordsAreWritten : Prop :=
  ∀ (job : ProgramJob) (store : List StoreCell) (s : State), s.pins.resetLow = false →
    s.journal.job = some job →
    Store.program s.journal.store (storeAddr job.sector job.addr) job.words = (store, true) →
    let j := s.journal
    let carry := if job.fromCarry then j.carry.tail else j.carry
    let queue := if job.fromCarry then j.appendQueue else j.appendQueue.tail
    let fill := j.fill + job.words.length
    let q : Journal := { j with
      job := none, op := if j.op = .programming then .idle else j.op, store := store, fill := fill,
      carry := carry, appendQueue := queue,
      readable := j.readable ++
        [{ sector := job.sector, addr := job.addr, kind := job.kind, length := job.words.length,
           seq := job.seq }] }
    let saves := job.kind = .machine ∧ job.fromCarry = false
    let quiet := fill < 768 ∨ j.mark = true
    let copying := j.target = none ∨ carry ≠ []
    let open_ := s.modeCtl.mode ≠ .closing
    ∃ t, exec .journalRecordWritten s = .next t ∧
      (open_ → ¬saves → quiet ∨ queue.all (fun x => x.kind != .machine) = true →
        t = { s with journal := t.journal, display := { s.display with stale := t.display.stale } }) ∧
      (¬saves ∨ s.cal.capture ≠ .check →
        (copying → quiet → t.journal = q.pump) ∧
        (∀ n, j.target = some n → carry = [] → quiet →
          t.journal = Journal.pump { q with
            sectors := j.sectors.setIfInBounds n .erasing,
            readable := q.readable.filter (fun r => r.sector != n), eraseSector := some n,
            eraseTime := 0, target := none }) ∧
        (copying → 768 ≤ fill → j.mark = false → queue.all (fun x => x.kind != .machine) = true →
          t.journal = q.beginEraseAhead.pump)) ∧
      (¬open_ → j.drainAsked = true → s.line.access ≠ .send → ¬saves → quiet → carry = [] → queue = [] →
        j.target = none → j.anyErasing = false → t = standbyOf { s with journal := q.pump }) ∧
      (∀ r, open_ → saves → quiet → s.cal.working = some r →
        let active := { s.cal with
          active := r, save := none,
          refEntry := match r.curves with
            | some c => c.refLoad
            | none => s.cal.refEntry }
        let answer := (transmit .settingsAnswer (settingsAnswerData true .saved 0 0) s).line
        let ended := fun (cal : Calibration) (line : LineInterface) => { s with
          cal := cal, line := line, weigher := { s.weigher with z := 0 }, journal := t.journal,
          display := { s.display with stale := true } }
        (s.cal.save = some .capture → t = ended { active with capture := .done } s.line) ∧
        (s.cal.save = some .settings → s.cal.capture ≠ .check → t = ended active answer) ∧
        (∀ e l, s.cal.save = some .settings → s.cal.capture = .check → s.cal.candEmpty = some e →
          s.cal.candLoaded = some l → j.jstate ≠ .fault → queue.length < 4 →
          t = ended { active with
            capture := .saving, save := some .capture, candEmpty := none, candLoaded := none,
            working := some { r with
              curves := some { empty := e, loaded := l, refLoad := s.cal.candRef } } } answer))

/-- DISPATCH of a JOURNAL_READ (R201, R202): one for the part, in RUN, SERVICE or CLOSING and not in LISTEN_ONLY,
joins the read queue, or with two waiting or after the drain is asked is dropped and counted; any other is ignored.
READ_SERVED (R201): the telegrams of the answer are handed over in order, the read is done, and the array takes its
next work; where no record is found the one telegram is END, its part fields 0 (log entry 48). -/
def Obligations.ReadsAreServed : Prop :=
  (∀ (r : RxTelegram) (rest : List RxTelegram) (s : State), s.pins.resetLow = false →
    s.line.inbox = r :: rest → r.kind = .journalRead →
    let taken := (journalReadFields r.data).1 = s.modeCtl.station ∧ s.modeCtl.listenOnly = false ∧
      (s.modeCtl.mode = .run ∨ s.modeCtl.mode = .service ∨ s.modeCtl.mode = .closing)
    ∃ t, exec .dispatch s = .next t ∧ t.weigher = s.weigher ∧ t.trucks = s.trucks ∧ t.pass = s.pass ∧
      t.cycle = s.cycle ∧ t.tally = s.tally ∧ t.clock = s.clock ∧
      (¬taken → t.journal = s.journal) ∧
      (taken → s.journal.drainAsked = false → s.journal.readQueue.length < 2 →
        t.journal = Journal.pump { s.journal with
          readQueue := s.journal.readQueue ++ [(journalReadFields r.data).2] }) ∧
      (taken → (s.journal.drainAsked = true ∨ 2 ≤ s.journal.readQueue.length) →
        t.journal = { s.journal with lostReads := min 65535 (s.journal.lostReads + 1) })) ∧
  (∀ (seq : Nat) (s : State), s.pins.resetLow = false → s.modeCtl.mode ≠ .standby →
    s.journal.serving = some seq →
    (s.journal.findRead seq = none →
      exec .readServed s = .next { s with
        line := (transmit .journalRecord [0x8000#16] s).line,
        journal := Journal.pump { s.journal with serving := none } }) ∧
    (∀ r, s.journal.findRead seq = some r → r.kind ≠ .machine ∧ seq ≤ r.seq ∧ r ∈ s.journal.readable ∧
      (∀ q ∈ s.journal.readable, q.kind ≠ .machine → seq ≤ q.seq → r.seq ≤ q.seq)) ∧
    (∃ t, exec .readServed s = .next t ∧ t = { s with line := t.line, journal := t.journal } ∧
      t.journal = Journal.pump { s.journal with serving := none } ∧
      t.line = ((s.journal.answer seq).foldl (fun u d => transmit .journalRecord d u) s).line))

/-- PROGRAM_FAILURE (R186, R196). Where every word of the record reads its value already no program can fail, and
the record is written (log entry 14). Otherwise the sector is FAULTED, the failure is counted, and outside CLOSING,
beside the array, its one free value and the stale mark the part is as before, but where FAULT drops a MACHINE
request. One word of the record does not read its value; the words before it read theirs, so it lies no further
than the first word that holds a 0 where its value has a 1, and every other word is as before (which word failed
and what it holds is left open, log entry 9). Where the sector was the ACTIVE one, no erase-ahead with copies left
stands. Short of FAULT every request keeps its place. -/
def Obligations.ProgramFailureFaultsTheSector : Prop :=
  ∀ (job : ProgramJob) (s : State), s.pins.resetLow = false →
    s.journal.job = some job → job.sector < 4 →
    let a := storeAddr job.sector job.addr
    let w := fun (k : Nat) => job.words.getD k 0
    ((∀ k, k < job.words.length → Store.read s.journal.store (a + k) = w k) → Store.wf s.journal.store →
      exec .programFailure s = exec .journalRecordWritten s) ∧
    ((∃ k, k < job.words.length ∧ Store.read s.journal.store (a + k) ≠ w k) →
    ∃ t, exec .programFailure s = .next t ∧
      (s.modeCtl.mode ≠ .closing →
        t.journal.jstate ≠ .fault ∨ s.journal.appendQueue.all (fun q => q.kind != .machine) = true →
        t = { s with
          journal := t.journal, display := { s.display with stale := t.display.stale },
          freeCount := s.freeCount + 1 }) ∧
      t.journal.sector job.sector = .faulted ∧
      t.journal.programFailures = min 65535 (s.journal.programFailures + 1) ∧ t.journal.jstate ≠ .ok ∧
      ((∀ n, s.journal.sector n = .active → n = job.sector) → t.journal.target = none) ∧
      (Store.wf s.journal.store → a + job.words.length ≤ 4096 →
        ∃ k, k < job.words.length ∧ Store.read t.journal.store (a + k) ≠ w k ∧
          (∀ i, i < k → Store.read t.journal.store (a + i) = w i ∧
            Store.read s.journal.store (a + i) &&& w i = w i) ∧
          ∀ b, (∀ i, i ≤ k → b ≠ a + i) →
            Store.read t.journal.store b = Store.read s.journal.store b) ∧
      (t.journal.jstate ≠ .fault →
        t.journal.appendQueue.map (fun q => q.body) = s.journal.appendQueue.map (fun q => q.body)))

/-- ERASE_DONE (R186, R195): every word of the sector reads 0xFFFF and every other word is as before; with no other
work waiting the sector is ERASED and the array IDLE, and in CLOSING, with no other sector ERASING and no
transmission in progress, the part enters STANDBY (R202, R224, R225). ERASE_FAILED (R186, R195, R197), of a sector
not wholly erased: the sector is FAULTED, the failure is counted and the state judged; some word of the sector does
not read 0xFFFF, and words outside it are as before, which is the model's reading of a failed erase (log entry 10). -/
def Obligations.ErasesComplete : Prop :=
  ∀ (n : Nat) (s : State), s.pins.resetLow = false → s.journal.op = .erasing →
    s.journal.eraseSector = some n → n < 4 →
    (∃ t, exec .eraseDone s = .next t ∧
      (∀ a, Store.read t.journal.store a =
        if a / 1024 = n then 0xFFFF#16 else Store.read s.journal.store a) ∧
      (s.journal.deferred = false → s.journal.carry = [] → s.journal.appendQueue = [] →
        s.journal.readQueue = [] → s.journal.job = none → s.journal.serving = none →
        let done := { s with journal := { s.journal with
          sectors := s.journal.sectors.setIfInBounds n .erased,
          store := Store.eraseSector s.journal.store n, eraseSector := none, eraseTime := 0,
          op := .idle } }
        (s.modeCtl.mode ≠ .closing → t = done) ∧
        (s.modeCtl.mode = .closing → s.journal.drainAsked = true → s.line.access ≠ .send →
          (∀ m, m < 4 → m ≠ n → s.journal.sector m ≠ .erasing) → t = standbyOf done))) ∧
    (Store.wf s.journal.store → fullyErased s.journal.store n = false →
      s.journal.appendQueue.all (fun q => q.kind != .machine) = true →
      ∃ t, exec .eraseFailed s = .next t ∧
        (s.modeCtl.mode ≠ .closing →
          t = { s with journal := t.journal, display := { s.display with stale := t.display.stale },
                       freeCount := s.freeCount + 1 }) ∧
        t.journal.sector n = .faulted ∧
        t.journal.eraseFailures = min 65535 (s.journal.eraseFailures + 1) ∧ t.journal.jstate ≠ .ok ∧
        (∃ a, a / 1024 = n ∧ Store.read t.journal.store a ≠ 0xFFFF#16) ∧
        (∀ a, a / 1024 ≠ n → Store.read t.journal.store a = Store.read s.journal.store a))

/-- What may change the array (R186): whatever the command, a word outside the record being programmed and outside
the sector to be erased keeps its value, and a word outside that sector only loses bits. That a failed or cut
operation reaches no further is the model's reading (log entries 9 and 10). -/
def Obligations.OnlyTwoOperationsChangeTheArray : Prop :=
  ∀ (c : Instr) (s t : State) (a : Nat), Store.wf s.journal.store → exec c s = .next t →
    s.journal.erases a = false →
    (s.journal.programs a = false → Store.read t.journal.store a = Store.read s.journal.store a) ∧
    onlyFalls (Store.read s.journal.store a) (Store.read t.journal.store a) = true

/-- A written record is found by the next scan (R187, R191, R198): programmed at word 0 of an erased sector of any
array in its canonical form, a record of an allowed length is the one valid record of that sector, with its kind,
length and sequence number, and the fill is its length. -/
def Obligations.WrittenRecordsAreFound : Prop :=
  ∀ (m : List StoreCell) (sector : Nat) (kind : RecordKind) (seq : Nat) (body : List Word), Store.wf m →
    sector < 4 → fullyErased m sector = true → seq < 4294967296 →
    kind.allowsLength (body.length + 4) = true →
    let written := Store.program m (storeAddr sector 0) (recordWords kind seq body)
    written.2 = true ∧
    scanSector written.1 sector =
      { valid := [{ sector := sector, addr := 0, kind := kind, length := body.length + 4, seq := seq }],
        torn := 0, bad := 0, closed := false, fill := body.length + 4 }

/-- Through every step the array's list keeps its canonical form, and the queues hold at most what their rules
allow (R190, R201, R205, R207, R215). -/
def Obligations.FormAndBoundsAreKept : Prop :=
  ∀ s t : State, step s = .next t →
    (Store.wf s.journal.store → Store.wf t.journal.store) ∧
    (s.queuesBounded = true → t.queuesBounded = true)

/-- Reset is a safe state: the laws that the statements above say a step keeps, the array's form, the Truck List,
the queues, silence, the pending pass and the unweighed cycles, hold there. The straps and the array there are the
model's choice (log entries 4 and 5). -/
def Obligations.ResetIsSafe : Prop := State.reset.safe
end

