-- ==== Sys2Proof/Laws/Arith.lean ====
section
/-! SUPPORT. The arithmetic of R1 and R2 and the scan of one key (R174): one law for each operation. -/

namespace Sys2Proof.Machine

/-- A clamped value lies in its range (R1). -/
theorem clamp_bounds {lo hi x : Int} (h : lo ≤ hi) : lo ≤ clamp lo hi x ∧ clamp lo hi x ≤ hi := by
  unfold clamp; repeat' split
  all_goals omega

/-- A value in its range is left alone (R1). -/
theorem clamp_of_within {lo hi x : Int} (h : lo ≤ x) (h' : x ≤ hi) : clamp lo hi x = x := by
  unfold clamp; repeat' split
  all_goals omega

/-- A rounded quotient is off the exact one by at most a half (R1). -/
theorem roundDiv_near {n d : Int} (h : 0 < d) :
    2 * (d * roundDiv n d) - 2 * n ≤ d ∧ 2 * n - 2 * (d * roundDiv n d) ≤ d := by
  unfold roundDiv
  have div (m : Int) : 2 * d * (m / (2 * d)) ≤ m ∧ m < 2 * d * (m / (2 * d)) + 2 * d := by
    have h1 := Int.mul_ediv_add_emod m (2 * d)
    have h2 := Int.emod_nonneg m (show 2 * d ≠ 0 by omega)
    have h3 := Int.emod_lt_of_pos m (show 0 < 2 * d by omega)
    omega
  split
  · have := div (2 * n + d)
    generalize (2 * n + d) / (2 * d) = q at this ⊢
    rw [mul_assoc] at this; omega
  · have := div (2 * -n + d)
    generalize (2 * -n + d) / (2 * d) = q at this ⊢
    rw [mul_assoc] at this; rw [mul_neg]; omega

/-- A counter stays at most at its limit, and never falls by counting (R2). -/
theorem inc_bounds (n : Nat) : inc n ≤ 65535 ∧ (n ≤ 65535 → n ≤ inc n) := by
  unfold inc satAdd limit16; omega

/-- A counter at its limit stays there when it would be decreased (R2). -/
theorem satSub_limit (l k : Nat) : satSub l l k = l := by simp [satSub]

/-- A scan at the level of the last two scans settles the key; any other keeps its level (R174). -/
theorem scan_pressed (x : KeyState) (level : Bool) :
    (x.scan level).pressed =
      if x.lastScan = some level ∧ 2 ≤ x.run then level else x.pressed := by
  unfold KeyState.scan
  by_cases h : x.lastScan = some level <;> simp [h]

end Sys2Proof.Machine
end

