-- ==== Sys2Proof/Laws/Store.lean ====
section
/-! SUPPORT. The store array's laws: every operation keeps the canonical form, a read after a write gives the word
written, a write leaves every other word alone, and a word program only clears bits (R186). -/

namespace Sys2Proof.Machine

/-! ## The canonical form -/

/-- Every address of a list lies above a bound. -/
def Store.above (b : Nat) (m : List StoreCell) : Prop := ∀ c ∈ m, b < c.1

theorem Store.wf_nil : Store.wf [] := ⟨List.Pairwise.nil, by simp⟩

theorem Store.wf_cons {c : StoreCell} {m : List StoreCell} :
    Store.wf (c :: m) ↔ Store.above c.1 m ∧ (c.2 ≠ erasedWord ∧ c.1 < storeWords) ∧ Store.wf m := by
  unfold Store.wf Store.above
  rw [List.pairwise_cons, List.forall_mem_cons]
  tauto

theorem Store.above_put {b a : Nat} {w : Word} {m : List StoreCell} (h : Store.above b m) (hb : b < a) :
    Store.above b (Store.put m a w) := by
  induction m with
  | nil =>
    unfold Store.put; split
    · simp [Store.above]
    · intro c hc; simp at hc; subst hc; exact hb
  | cons d m ih =>
    obtain ⟨e, v⟩ := d
    have hd : b < e := h (e, v) (by simp)
    have hm : Store.above b m := fun c hc => h c (by simp [hc])
    unfold Store.put
    split
    · split
      · exact h
      · intro c hc
        rcases List.mem_cons.1 hc with rfl | hc
        · exact hb
        · exact h c hc
    · split
      · split
        · exact hm
        · intro c hc
          rcases List.mem_cons.1 hc with rfl | hc
          · exact hb
          · exact hm c hc
      · intro c hc
        rcases List.mem_cons.1 hc with rfl | hc
        · exact hd
        · exact ih hm c hc

theorem Store.above_trans {a b : Nat} {m : List StoreCell} (hb : a < b) (h : Store.above b m) :
    Store.above a m := fun c hc => Nat.lt_trans hb (h c hc)

theorem Store.wf_put {a : Nat} {w : Word} {m : List StoreCell} (h : Store.wf m) (ha : a < storeWords) :
    Store.wf (Store.put m a w) := by
  induction m with
  | nil =>
    unfold Store.put; split
    · exact Store.wf_nil
    · rename_i hw
      exact Store.wf_cons.2 ⟨by simp [Store.above], ⟨hw, ha⟩, Store.wf_nil⟩
  | cons d m ih =>
    obtain ⟨e, v⟩ := d
    obtain ⟨hab, hv, hm⟩ := Store.wf_cons.1 h
    unfold Store.put
    split
    · rename_i hlt
      split
      · exact h
      · rename_i hw
        refine Store.wf_cons.2 ⟨?_, ⟨hw, ha⟩, h⟩
        intro c hc
        rcases List.mem_cons.1 hc with rfl | hc
        · exact hlt
        · exact Nat.lt_trans hlt (hab c hc)
    · split
      · rename_i heq
        split
        · exact hm
        · rename_i hw
          exact Store.wf_cons.2 ⟨by simpa [heq] using hab, ⟨hw, ha⟩, hm⟩
      · rename_i h1 h2
        exact Store.wf_cons.2 ⟨Store.above_put hab (show e < a by omega), hv, ih hm⟩

theorem Store.wf_write {a : Nat} {w : Word} {m : List StoreCell} (h : Store.wf m) :
    Store.wf (Store.write m a w) := by
  unfold Store.write; split
  · exact Store.wf_put h ‹_›
  · exact h

theorem Store.wf_program {a : Nat} {ws : List Word} {m : List StoreCell} (h : Store.wf m) :
    Store.wf (Store.program m a ws).1 := by
  induction ws generalizing m a with
  | nil => exact h
  | cons w ws ih =>
    simp only [Store.program]
    split
    · exact ih (Store.wf_write h)
    · exact Store.wf_write h

theorem Store.wf_programPart {a k : Nat} {left : Word} {ws : List Word} {m : List StoreCell}
    (h : Store.wf m) : Store.wf (Store.programPart m a ws k left) := by
  induction ws generalizing m a k with
  | nil => cases k <;> exact h
  | cons w ws ih =>
    cases k with
    | zero => exact Store.wf_write h
    | succ k => exact ih (Store.wf_write h)

theorem Store.wf_filter {p : StoreCell → Bool} {m : List StoreCell} (h : Store.wf m) :
    Store.wf (m.filter p) :=
  ⟨h.1.filter p, fun c hc => h.2 c (List.mem_of_mem_filter hc)⟩

theorem Store.wf_eraseSector {n : Nat} {m : List StoreCell} (h : Store.wf m) :
    Store.wf (Store.eraseSector m n) := Store.wf_filter h

/-- Every cell that setting bits leaves stands where a cell stood, and does not read erased. -/
theorem Store.mem_setBits {k n : Nat} {m : List StoreCell} (h : Store.wf m) {c : StoreCell}
    (hc : c ∈ Store.setBits k m n) : c.2 ≠ erasedWord ∧ ∃ d ∈ m, d.1 = c.1 := by
  unfold Store.setBits at hc
  obtain ⟨d, hd, hf⟩ := List.mem_filterMap.1 hc
  dsimp only at hf
  split at hf
  · split at hf
    · cases hf
    · rename_i hne
      cases hf
      exact ⟨hne, d, hd, rfl⟩
  · cases hf
    exact ⟨(h.2 _ hd).1, _, hd, rfl⟩

theorem Store.wf_setBits {k n : Nat} {m : List StoreCell} (h : Store.wf m) :
    Store.wf (Store.setBits k m n) := by
  induction m with
  | nil => exact Store.wf_nil
  | cons d m ih =>
    obtain ⟨hab, hv, hm⟩ := Store.wf_cons.1 h
    have hrest : Store.above d.1 (Store.setBits k m n) := fun c hc => by
      obtain ⟨-, e, he, heq⟩ := Store.mem_setBits hm hc
      exact heq ▸ hab e he
    unfold Store.setBits at ih hrest ⊢
    rw [List.filterMap_cons]
    dsimp only
    split
    · exact ih hm
    · rename_i b hb
      split at hb
      · split at hb
        · cases hb
        · rename_i hne
          cases hb
          exact Store.wf_cons.2 ⟨hrest, ⟨hne, hv.2⟩, ih hm⟩
      · cases hb
        exact Store.wf_cons.2 ⟨hrest, hv, ih hm⟩

theorem Store.wf_keepOne {k n : Nat} {m : List StoreCell} (h : Store.wf m) :
    Store.wf (Store.keepOne k m n) := Store.wf_filter h

theorem Store.wf_erasePart {k n : Nat} {m : List StoreCell} (h : Store.wf m) :
    Store.wf (Store.erasePart k m n) := by
  unfold Store.erasePart; split
  · exact Store.wf_keepOne h
  · exact Store.wf_setBits h

/-- A cut or failed erase never leaves its sector wholly erased, unless it was so before (R186, R226). -/
theorem Store.fullyErased_erasePart {k n : Nat} {m : List StoreCell} (h : fullyErased m n = false) :
    fullyErased (Store.erasePart k m n) n = false := by
  unfold Store.erasePart; split
  · have hpos : 0 < (Store.cellsOf m n).length := by
      simpa [fullyErased, List.length_pos_iff] using h
    have hlt := Nat.mod_lt (Config.wordKept k) hpos
    have hmem := List.getElem_mem hlt
    have hc := List.mem_filter.1 hmem
    rw [fullyErased, List.isEmpty_eq_false_iff_exists_mem]
    refine ⟨_, List.mem_filter.2 ⟨List.mem_filter.2 ⟨hc.1, ?_⟩, hc.2⟩⟩
    simp [List.getElem?_eq_getElem hlt]
  · exact Bool.not_eq_true _ ▸ ‹¬_›

/-! ## Reads after writes -/

theorem Store.read_of_above {a : Nat} {m : List StoreCell} (h : Store.above a m) :
    Store.read m a = erasedWord := by
  induction m with
  | nil => rfl
  | cons d m ih =>
    obtain ⟨e, v⟩ := d
    have hd : a < e := h (e, v) (by simp)
    unfold Store.read
    rw [if_neg (by omega)]
    exact ih fun c hc => h c (by simp [hc])

theorem Store.read_put {a b : Nat} {w : Word} {m : List StoreCell} (h : Store.wf m) :
    Store.read (Store.put m a w) b = if b = a then w else Store.read m b := by
  induction m with
  | nil =>
    unfold Store.put
    by_cases hw : w = erasedWord
    · rw [if_pos hw]; split
      · exact hw.symm
      · rfl
    · rw [if_neg hw]; simp [Store.read]
  | cons d m ih =>
    obtain ⟨e, v⟩ := d
    obtain ⟨hab, hv, hm⟩ := Store.wf_cons.1 h
    unfold Store.put
    by_cases h1 : a < e
    · rw [if_pos h1]
      by_cases hw : w = erasedWord
      · rw [if_pos hw]
        by_cases hb : b = a
        · subst hb
          rw [if_pos rfl, hw]
          refine Store.read_of_above fun c hc => ?_
          rcases List.mem_cons.1 hc with rfl | hc
          · exact h1
          · exact Nat.lt_trans h1 (hab c hc)
        · rw [if_neg hb]
      · rw [if_neg hw]
        by_cases hb : b = a
        · rw [if_pos hb]; subst hb; simp [Store.read]
        · rw [if_neg hb, Store.read, if_neg hb]
    · rw [if_neg h1]
      by_cases h2 : a = e
      · rw [if_pos h2]
        by_cases hw : w = erasedWord
        · rw [if_pos hw]
          by_cases hb : b = a
          · rw [if_pos hb, hw, hb, h2]; exact Store.read_of_above hab
          · rw [if_neg hb, Store.read, if_neg (by omega)]
        · rw [if_neg hw]
          by_cases hb : b = a
          · rw [if_pos hb]; simp [Store.read, hb]
          · rw [if_neg hb, Store.read, Store.read, if_neg hb, if_neg (by omega)]
      · rw [if_neg h2, Store.read, Store.read]
        by_cases hb : b = e
        · subst hb; rw [if_pos rfl, if_pos rfl, if_neg (fun h => h2 h.symm)]
        · rw [if_neg hb, if_neg hb]; exact ih hm

/-- A read after a write: the word written at its address, every other word as before. -/
theorem Store.read_write {a b : Nat} {w : Word} {m : List StoreCell} (h : Store.wf m)
    (ha : a < storeWords) :
    Store.read (Store.write m a w) b = if b = a then w else Store.read m b := by
  unfold Store.write; rw [if_pos ha]; exact Store.read_put h

/-- A sector erase: every word of the sector reads erased, every other word as before (R186). -/
theorem Store.read_eraseSector {n b : Nat} {m : List StoreCell} :
    Store.read (Store.eraseSector m n) b =
      if b / sectorWords = n then erasedWord else Store.read m b := by
  induction m with
  | nil => simp [Store.eraseSector, Store.read]
  | cons d m ih =>
    obtain ⟨e, v⟩ := d
    unfold Store.eraseSector at ih ⊢
    rw [List.filter_cons]
    by_cases he : e / sectorWords = n
    · rw [if_neg (by simp [he]), ih]
      by_cases hb : b / sectorWords = n
      · simp [hb]
      · rw [if_neg hb, if_neg hb, Store.read,
          if_neg (fun h : b = e => hb (by rw [h]; exact he))]
    · rw [if_pos (by simp [he]), Store.read, Store.read, ih]
      by_cases hbe : b = e
      · subst hbe; simp [he]
      · simp [hbe]

/-! ## Which word programs can fail (R186) -/

/-- A word whose program can fail lies in the run, does not read its value, and every word before it can be
programmed to its own. -/
theorem Store.mem_failable {m : List StoreCell} {a k : Nat} {ws : List Word} (h : k ∈ Store.failable m a ws) :
    ∃ w, ws[k]? = some w ∧ Store.read m (a + k) ≠ w ∧
      ∀ i v, i < k → ws[i]? = some v → Store.read m (a + i) &&& v = v := by
  induction ws generalizing a k with
  | nil => simp [Store.failable] at h
  | cons w ws ih =>
    have later (h : k ∈ (if Store.read m a &&& w = w then (Store.failable m (a + 1) ws).map (fun k => k + 1)
          else [])) : ∃ v, (w :: ws)[k]? = some v ∧ Store.read m (a + k) ≠ v ∧
          ∀ i v, i < k → (w :: ws)[i]? = some v → Store.read m (a + i) &&& v = v := by
      split at h
      · rename_i hw
        obtain ⟨k, hk, rfl⟩ := List.mem_map.1 h
        obtain ⟨v, hv, hne, hall⟩ := ih hk
        refine ⟨v, by simpa using hv, by rwa [Nat.add_right_comm] at hne, fun i u hi hu => ?_⟩
        cases i with
        | zero => simp at hu; subst hu; simpa using hw
        | succ i =>
          rw [← Nat.add_assoc, Nat.add_right_comm]
          exact hall i u (by omega) (by simpa using hu)
      · simp at h
    simp only [Store.failable] at h
    split at h
    · exact later h
    · rename_i hne
      rcases List.mem_cons.1 h with rfl | h
      · exact ⟨w, rfl, hne, fun i v hi => absurd hi (by omega)⟩
      · exact later h

/-- Where no program of a run can fail, every word of it reads its value already. -/
theorem Store.read_of_failable_nil {m : List StoreCell} {a : Nat} {ws : List Word}
    (h : Store.failable m a ws = []) : Store.slice m a ws.length = ws := by
  induction ws generalizing a with
  | nil => rfl
  | cons w ws ih =>
    simp only [Store.failable] at h
    split at h
    · rename_i heq
      rw [if_pos (by simp [heq]), List.map_eq_nil_iff] at h
      simp [Store.slice, heq, ih h]
    · simp at h

end Sys2Proof.Machine
end

