-- ==== Sys2Proof/Laws/Journal.lean ====
section
/-! SUPPORT. Which of the journal's operations leave the array, its readable set and its queues alone
(R186, R189, R190, R192). -/

namespace Sys2Proof.Machine

/-! ## The array is changed by the ends of its work only (R186) -/

/-- Making a sector ACTIVE moves sector states alone. -/
theorem activate_store (j : Journal) (n : Nat) : (j.activate n).store = j.store := by
  unfold Journal.activate; split
  · rfl
  · cases j.active <;> rfl

/-- Beginning a record programs no word yet. -/
theorem beginProgram_store (j : Journal) (fromCarry : Bool) (kind : RecordKind) (body : List Word)
    (taken : Option Nat) (p : Nat × Nat) :
    (j.beginProgram fromCarry kind body taken p).store = j.store := by
  unfold Journal.beginProgram
  cases taken <;> simp [activate_store, Journal.advanceSeq]

/-- Taking the next work changes no word (R192). -/
theorem pump_store (j : Journal) : j.pump.store = j.store := by
  unfold Journal.pump
  repeat' split
  all_goals simp [beginProgram_store]

/-- Judging the journal state changes no word (R197). -/
theorem judge_store (j : Journal) : j.judge.store = j.store := by
  unfold Journal.judge
  repeat' split
  all_goals rfl

/-- Erase-ahead with no ACTIVE sector changes no word yet (R193). -/
theorem eraseAheadNoActive_store (j : Journal) : j.eraseAheadNoActive.store = j.store := by
  unfold Journal.eraseAheadNoActive
  repeat' split
  all_goals first | rfl | exact judge_store _

/-- Erase-ahead begins without changing a word (R193, R194). -/
theorem beginEraseAhead_store (j : Journal) : j.beginEraseAhead.store = j.store := by
  unfold Journal.beginEraseAhead
  dsimp only
  repeat' split
  all_goals first | rfl | exact judge_store _ | exact eraseAheadNoActive_store _

/-- A request changes no word (R190). -/
theorem append_store (j : Journal) (kind : RecordKind) (body : List Word) :
    (j.append kind body).1.store = j.store := by
  unfold Journal.append
  split
  · rfl
  · exact pump_store _

/-- The start scan only reads the array (R186, R198). -/
theorem scan_store (m : List StoreCell) : (Journal.scan m).store = m := rfl

/-- Erase-ahead after the restore changes no word (R199). -/
theorem afterRestore_store (j : Journal) : j.afterRestore.store = j.store := by
  unfold Journal.afterRestore
  split
  · rw [pump_store, beginEraseAhead_store]
  · rfl

/-! ## Requests (R190) -/

/-- A request is dropped and counted, in FAULT or with four queued, or it is taken and work goes on (R190). -/
theorem append_cases (j : Journal) (kind : RecordKind) (body : List Word) :
    ((j.jstate = .fault ∨ 4 ≤ j.appendQueue.length) ∧
      j.append kind body = ({ j with lostAppends := inc j.lostAppends }, false)) ∨
    ((j.jstate ≠ .fault ∧ j.appendQueue.length < 4) ∧
      j.append kind body =
        (Journal.pump { j with
          appendQueue := j.appendQueue ++ [{ kind := kind, body := body, seq := none }] }, true)) := by
  unfold Journal.append
  split
  · next h => exact .inl ⟨h, rfl⟩
  · next h =>
    rw [not_or, not_le] at h
    exact .inr ⟨h, rfl⟩

/-- Taking work keeps the length of the append queue: a request leaves it only when its record is written. -/
theorem pump_appendQueue_length (j : Journal) : j.pump.appendQueue.length = j.appendQueue.length := by
  have act (j : Journal) (n : Nat) : (j.activate n).appendQueue = j.appendQueue := by
    unfold Journal.activate; split
    · rfl
    · cases j.active <;> rfl
  have begun (j : Journal) (f : Bool) (k : RecordKind) (b : List Word) (t : Option Nat) (p : Nat × Nat) :
      (j.beginProgram f k b t p).appendQueue.length = j.appendQueue.length := by
    unfold Journal.beginProgram
    cases t <;> cases f <;> simp [act, Journal.advanceSeq]
    all_goals cases j.appendQueue <;> rfl
  unfold Journal.pump
  repeat' split
  all_goals simp [begun]

/-! ## Reset -/

/-- The array of State.reset has its canonical form. -/
theorem reset_store_wf : Store.wf State.reset.journal.store := Store.wf_nil

end Sys2Proof.Machine
end

