-- ==== Sys2Proof/Laws/Ops.lean ====
section
/-! SUPPORT. One law for each operation the blocks share: everything it can do to the state. -/

namespace Sys2Proof.Machine

/-! ## Commands -/

/-- A command answers a next state: its effect, or nothing while the reset line is low (R226). -/
theorem whilePowered_next {s t : State} {f : State → State} (h : whilePowered s f = .next t) :
    (s.pins.resetLow = true ∧ t = s) ∨ (s.pins.resetLow = false ∧ t = f s) := by
  unfold whilePowered at h
  cases hr : s.pins.resetLow <;> simp [hr] at h <;> simp [h]

/-! ## The transmit queue (R214, R215) -/

/-- A telegram joins a queue as one more entry (R214). -/
theorem enqueue_length (q : List TxTelegram) (t : TxTelegram) : (enqueue q t).length = q.length + 1 := by
  induction q with
  | nil => rfl
  | cons x rest ih => unfold enqueue; split <;> simp [ih]

/-- A queue gains the new telegram and keeps every other (R214). -/
theorem mem_enqueue {q : List TxTelegram} {t x : TxTelegram} : x ∈ enqueue q t ↔ x = t ∨ x ∈ q := by
  induction q with
  | nil => simp [enqueue]
  | cons y rest ih =>
    unfold enqueue; split
    · simp
    · simp [ih]; tauto

/-- The queue policy keeps the bound of 8 (R215). -/
theorem offer_length {l : LineInterface} (k : TxKind) (d : List Word) (h : l.queue.length ≤ 8) :
    (l.offer k d).queue.length ≤ 8 := by
  unfold LineInterface.offer
  split
  · simp [LineInterface.enter, enqueue_length]; omega
  · split
    · next h1 =>
      simp only [Bool.and_eq_true] at h1
      obtain ⟨x, hx, he⟩ := List.any_eq_true.1 h1.2
      have := List.length_eraseP_of_mem hx he
      have := List.length_pos_of_mem hx
      simp [LineInterface.enter, enqueue_length]; omega
    · exact h

/-- Entering the queue puts the telegram after the last one of its class or of an earlier one in front, and
moves nothing else (R214). -/
theorem enqueue_split (q : List TxTelegram) (t : TxTelegram) :
    ∃ front back, q = front ++ back ∧ enqueue q t = front ++ t :: back ∧
      (∀ x ∈ front, x.kind.cls ≤ t.kind.cls) ∧ ∀ x ∈ back.head?, t.kind.cls < x.kind.cls := by
  induction q with
  | nil => exact ⟨[], [], rfl, rfl, by simp, by simp⟩
  | cons x rest ih =>
    by_cases h : t.kind.cls < x.kind.cls
    · exact ⟨[], x :: rest, rfl, by simp [enqueue, h], by simp, by simpa using h⟩
    · obtain ⟨f, b, h1, h2, h3, h4⟩ := ih
      exact ⟨x :: f, b, by simp [h1], by simp [enqueue, h, h2], by simpa using ⟨by omega, h3⟩, h4⟩

/-- Handing a telegram over touches the Line Interface alone, and its queue, sequences and dropped counter
alone (R214, R215). -/
theorem transmit_frame (k : TxKind) (d : List Word) (s : State) :
    transmit k d s = { s with line := { s.line with
      queue := (transmit k d s).line.queue, sendSeq := (transmit k d s).line.sendSeq,
      dropped := (transmit k d s).line.dropped } } := by
  unfold transmit LineInterface.offer LineInterface.enter
  repeat' split
  all_goals rfl

/-- What the Line Interface holds after a telegram is handed over depends on itself and on the silence alone
(R215). -/
theorem transmit_line (k : TxKind) (d : List Word) (s : State) :
    (transmit k d s).line = if muted s then s.line else s.line.offer k d := by
  unfold transmit; split <;> rfl

/-- A part in LISTEN_ONLY or CLASH discards a telegram handed over (R215). -/
theorem transmit_of_muted {k : TxKind} {d : List Word} {s : State} (h : muted s = true) :
    transmit k d s = s := by simp [transmit, h]

/-! ## CLASH (R213) -/

/-- Where CLASH is clear, setting it silences the part. -/
theorem setClash_of_clear {s : State} (h : s.line.clash = false) :
    setClash s = { s with
      line := { s.line with clash := true, access := .silent, queue := [], heartbeat := none },
      display := { s.display with stale := true } } := by simp [setClash, h, notice]

/-! ## The Producer Table (R59 to R64, R170) -/

/-- Replacing the table changes the table, and at most raises a change notice (R170). -/
theorem setProducers_eq (p : ProducerTable) (s : State) :
    setProducers p s = { s with
      prod := p, display := { s.display with stale := (setProducers p s).display.stale } } := by
  unfold setProducers notice; split <;> rfl

/-- Each slot hears a telegram by itself (R60). -/
theorem slot_hear (p : ProducerTable) (n : Nat) (ch : Channel) (id : SlotId) :
    (p.hear n).slot ch id = (p.slot ch id).hear n := by
  unfold ProducerTable.slot ProducerTable.chan ProducerTable.hear ChannelSlots.hear ChannelSlots.get
  cases ch <;> cases id <;> simp [chanIdx]

/-- Hearing a telegram leaves the station, the last sequence and the resynchronising mark of a slot. -/
theorem hear_keeps (x : Slot) (n : Nat) :
    (x.hear n).station = x.station ∧ (x.hear n).lastSeq = x.lastSeq ∧ (x.hear n).resync = x.resync := by
  unfold Slot.hear; split <;> exact ⟨rfl, rfl, rfl⟩

/-- A telegram that slot 1 accepts is taken by slot 1 (R59, R62). -/
theorem take_of_accepts {s : State} {ch : Channel} {r : RxTelegram} (h : s.accepts ch r = true) :
    ((s.prod.hear r.sender).take ch r.sender r.seq r.data).2 = some .primary := by
  simp only [State.accepts, Bool.and_eq_true, beq_iff_eq, Bool.or_eq_true, bne_iff_ne] at h
  obtain ⟨e1, e2, e3⟩ := hear_keeps (s.prod.slot ch .primary) r.sender
  have h1 : ((s.prod.hear r.sender).chan ch).slot1 = (s.prod.slot ch .primary).hear r.sender :=
    slot_hear s.prod r.sender ch .primary
  have h2 : (((s.prod.hear r.sender).slot ch .primary).judgeSeq r.seq).2 = true := by
    rw [slot_hear]
    unfold Slot.judgeSeq
    rw [e2, e3]
    cases hl : (s.prod.slot ch .primary).lastSeq with
    | none => rfl
    | some last =>
      rcases h.2 with h' | h'
      · simp [h']
      · rw [hl] at h'
        simp only [ne_eq, Option.some.injEq] at h'
        dsimp only
        split
        · rfl
        · rw [if_neg (Ne.symm h')]
  unfold ProducerTable.take ProducerTable.assign
  simp only [h1, e1, h.1, if_true, h2]

/-! ## Lift aborts (R24) -/

/-- What an abort does: the accumulator, the state, the count and the text. -/
theorem abortLift_eq (reason : AbortReason) (s : State) :
    abortLift reason s = { s with
      weigher := { s.weigher with
        acc := .cleared, state := belowOrAbove s.weigher.lastBoom s.cal.active.thetaLo },
      tally := { s.tally with aborted := inc s.tally.aborted },
      display := { s.display with
        message := some (.liftAborted reason), messageTimer := some 3000, stale := true } } := rfl

/-! ## Passes and trucks (R93, R113) -/

/-- What every resolution of a pass does (R93). -/
theorem resolvePass_eq (s : State) :
    resolvePass s = { s with
      pass := { s.pass with pending := none },
      display := { s.display with stale := true },
      mail := { s.mail with resolutions := s.mail.resolutions + 1 } } := rfl

/-- A close takes the head away, counts one truck, asks the journal for one record, hands over one TRUCK_STATE
with the entries left, and shows the text of its reason (R113, R115, R121). -/
theorem closeHead_of_cons {reason : CloseReason} {e : TruckEntry} {rest : List TruckEntry} {s : State}
    (h : s.trucks.entries = e :: rest) :
    closeHead reason s = { s with
      trucks := { s.trucks with entries := rest },
      tally := { s.tally with trucks := inc s.tally.trucks },
      journal := (s.journal.append .truckClosed
        (truckClosedBody s.tally.shift e reason (stampNow s))).1,
      line := (transmit .truckState
        (truckStateData s.tally.shift e (.closed reason) .none rest.length) s).line,
      display := { (placeIfAny reason.message s).display with stale := true } } := by
  unfold closeHead
  rw [h]
  cases hm : muted s <;> unfold muted at hm <;>
    cases reason <;>
      simp [setEntries, notice, sendTruckState, transmit, muted, tallyRequest, requestAppend, placeIfAny,
        CloseReason.message, placeMessage, ShiftFigures.truckClosed, hm]

/-! ## A shift change (R154, R156) -/

/-- A shift change that is raised leaves what R156 says of the state it meets. -/
theorem raiseShiftChange_changed (s : State) : ShiftChanged s (raiseShiftChange s) := by
  unfold raiseShiftChange shiftChangeClose
  refine ⟨fun h => ?_, fun e back he hp => ?_⟩
  · simp [h, closeShift, requestAppend, placeMessage, notice, nextShift, ShiftFigures.opened, lockoutTime, stampNow]
  · have hh : headHoldsPass s = true := by simp [headHoldsPass, he, hp]
    rw [if_pos hh, closeHead_of_cons he]
    simp [closeShift, requestAppend, placeMessage, notice, nextShift, ShiftFigures.opened, lockoutTime, stampNow, inc,
      satAdd, limit16, placeIfAny, CloseReason.message]

/-- The state a shift change leaves is fixed by the one it meets. -/
theorem ShiftChanged.unique {s t u : State} (ht : ShiftChanged s t) (hu : ShiftChanged s u) : t = u := by
  cases h : headHoldsPass s with
  | false => rw [ht.1 h, hu.1 h]
  | true =>
    match he : s.trucks.entries with
    | [] => simp [headHoldsPass, he] at h
    | e :: back =>
      have hp : e.passes ≠ [] := by simpa [headHoldsPass, he] using h
      rw [ht.2 e back he hp, hu.2 e back he hp]

/-- A change found is raised under the conditions of R151, and else nothing happens. -/
theorem changeFound_cases (s : State) :
    (mayRaiseChange s = true ∧ ShiftChanged s (changeFound s)) ∨
    (mayRaiseChange s = false ∧ changeFound s = s) := by
  unfold changeFound
  cases h : mayRaiseChange s
  · exact .inr ⟨rfl, rfl⟩
  · exact .inl ⟨rfl, raiseShiftChange_changed s⟩

/-! ## Closing (R224) -/

/-- The check at the end of a command either finds closing not ended or enters STANDBY (R224). -/
theorem closingCheck_cases (s : State) :
    closingCheck s = s ∨
    (s.modeCtl.mode = .closing ∧ s.journal.drainAsked = true ∧ s.journal.drained = true ∧
      s.line.access ≠ .send ∧ closingCheck s = enterStandby s) := by
  unfold closingCheck
  split
  · next h => exact .inr ⟨h.1, h.2.1, h.2.2.1, h.2.2.2, rfl⟩
  · exact .inl rfl

/-- The check enters STANDBY exactly where closing is over, with the entry actions that the statements name. -/
theorem closingCheck_eq (s : State) : closingCheck s = if s.closingOver then standbyOf s else s := by
  have h : s.closingOver = true ↔
      s.modeCtl.mode = .closing ∧ s.journal.drainAsked = true ∧ s.journal.drained = true ∧ s.line.access ≠ .send := by
    simp [State.closingOver, and_assoc]
  unfold closingCheck
  split
  · next hs => rw [if_pos (h.2 hs)]; rfl
  · next hs => rw [if_neg (fun ho => hs (h.1 ho))]

/-- While closing is not over the check does nothing. -/
theorem closingCheck_of_not_over {s : State} (h : s.closingOver = false) : closingCheck s = s := by
  simp [closingCheck_eq, h]

/-- Outside CLOSING the check does nothing. -/
theorem closingCheck_of_ne {s : State} (h : s.modeCtl.mode ≠ .closing) : closingCheck s = s := by
  simp [closingCheck, h]

end Sys2Proof.Machine
end

