-- ==== Sys2Proof/Laws/State.lean ====
section
/-! SUPPORT. One lemma for each field under each shared update of State, so that no proof unfolds an update. -/

namespace Sys2Proof.Machine

/-! ## notice -/

@[simp] theorem notice_pins (s : State) :
    (notice s).pins = s.pins := rfl

@[simp] theorem notice_modeCtl (s : State) :
    (notice s).modeCtl = s.modeCtl := rfl

@[simp] theorem notice_line (s : State) :
    (notice s).line = s.line := rfl

@[simp] theorem notice_prod (s : State) :
    (notice s).prod = s.prod := rfl

@[simp] theorem notice_weigher (s : State) :
    (notice s).weigher = s.weigher := rfl

@[simp] theorem notice_cal (s : State) :
    (notice s).cal = s.cal := rfl

@[simp] theorem notice_pass (s : State) :
    (notice s).pass = s.pass := rfl

@[simp] theorem notice_trucks (s : State) :
    (notice s).trucks = s.trucks := rfl

@[simp] theorem notice_cycle (s : State) :
    (notice s).cycle = s.cycle := rfl

@[simp] theorem notice_clock (s : State) :
    (notice s).clock = s.clock := rfl

@[simp] theorem notice_tally (s : State) :
    (notice s).tally = s.tally := rfl

@[simp] theorem notice_journal (s : State) :
    (notice s).journal = s.journal := rfl

@[simp] theorem notice_mail (s : State) :
    (notice s).mail = s.mail := rfl

@[simp] theorem notice_freeCount (s : State) :
    (notice s).freeCount = s.freeCount := rfl

@[simp] theorem notice_pending (s : State) :
    (notice s).pending = s.pending := rfl

/-! ## placeMessage -/

@[simp] theorem placeMessage_pins (m : Message) (s : State) :
    (placeMessage m s).pins = s.pins := rfl

@[simp] theorem placeMessage_modeCtl (m : Message) (s : State) :
    (placeMessage m s).modeCtl = s.modeCtl := rfl

@[simp] theorem placeMessage_line (m : Message) (s : State) :
    (placeMessage m s).line = s.line := rfl

@[simp] theorem placeMessage_prod (m : Message) (s : State) :
    (placeMessage m s).prod = s.prod := rfl

@[simp] theorem placeMessage_weigher (m : Message) (s : State) :
    (placeMessage m s).weigher = s.weigher := rfl

@[simp] theorem placeMessage_cal (m : Message) (s : State) :
    (placeMessage m s).cal = s.cal := rfl

@[simp] theorem placeMessage_pass (m : Message) (s : State) :
    (placeMessage m s).pass = s.pass := rfl

@[simp] theorem placeMessage_trucks (m : Message) (s : State) :
    (placeMessage m s).trucks = s.trucks := rfl

@[simp] theorem placeMessage_cycle (m : Message) (s : State) :
    (placeMessage m s).cycle = s.cycle := rfl

@[simp] theorem placeMessage_clock (m : Message) (s : State) :
    (placeMessage m s).clock = s.clock := rfl

@[simp] theorem placeMessage_tally (m : Message) (s : State) :
    (placeMessage m s).tally = s.tally := rfl

@[simp] theorem placeMessage_journal (m : Message) (s : State) :
    (placeMessage m s).journal = s.journal := rfl

@[simp] theorem placeMessage_mail (m : Message) (s : State) :
    (placeMessage m s).mail = s.mail := rfl

@[simp] theorem placeMessage_freeCount (m : Message) (s : State) :
    (placeMessage m s).freeCount = s.freeCount := rfl

@[simp] theorem placeMessage_pending (m : Message) (s : State) :
    (placeMessage m s).pending = s.pending := rfl

/-! ## clearMessage -/

@[simp] theorem clearMessage_pins (s : State) :
    (clearMessage s).pins = s.pins := rfl

@[simp] theorem clearMessage_modeCtl (s : State) :
    (clearMessage s).modeCtl = s.modeCtl := rfl

@[simp] theorem clearMessage_line (s : State) :
    (clearMessage s).line = s.line := rfl

@[simp] theorem clearMessage_prod (s : State) :
    (clearMessage s).prod = s.prod := rfl

@[simp] theorem clearMessage_weigher (s : State) :
    (clearMessage s).weigher = s.weigher := rfl

@[simp] theorem clearMessage_cal (s : State) :
    (clearMessage s).cal = s.cal := rfl

@[simp] theorem clearMessage_pass (s : State) :
    (clearMessage s).pass = s.pass := rfl

@[simp] theorem clearMessage_trucks (s : State) :
    (clearMessage s).trucks = s.trucks := rfl

@[simp] theorem clearMessage_cycle (s : State) :
    (clearMessage s).cycle = s.cycle := rfl

@[simp] theorem clearMessage_clock (s : State) :
    (clearMessage s).clock = s.clock := rfl

@[simp] theorem clearMessage_tally (s : State) :
    (clearMessage s).tally = s.tally := rfl

@[simp] theorem clearMessage_journal (s : State) :
    (clearMessage s).journal = s.journal := rfl

@[simp] theorem clearMessage_mail (s : State) :
    (clearMessage s).mail = s.mail := rfl

@[simp] theorem clearMessage_freeCount (s : State) :
    (clearMessage s).freeCount = s.freeCount := rfl

@[simp] theorem clearMessage_pending (s : State) :
    (clearMessage s).pending = s.pending := rfl

/-! ## useFree -/

@[simp] theorem useFree_pins (s : State) :
    (useFree s).pins = s.pins := rfl

@[simp] theorem useFree_modeCtl (s : State) :
    (useFree s).modeCtl = s.modeCtl := rfl

@[simp] theorem useFree_line (s : State) :
    (useFree s).line = s.line := rfl

@[simp] theorem useFree_prod (s : State) :
    (useFree s).prod = s.prod := rfl

@[simp] theorem useFree_weigher (s : State) :
    (useFree s).weigher = s.weigher := rfl

@[simp] theorem useFree_cal (s : State) :
    (useFree s).cal = s.cal := rfl

@[simp] theorem useFree_pass (s : State) :
    (useFree s).pass = s.pass := rfl

@[simp] theorem useFree_trucks (s : State) :
    (useFree s).trucks = s.trucks := rfl

@[simp] theorem useFree_cycle (s : State) :
    (useFree s).cycle = s.cycle := rfl

@[simp] theorem useFree_clock (s : State) :
    (useFree s).clock = s.clock := rfl

@[simp] theorem useFree_tally (s : State) :
    (useFree s).tally = s.tally := rfl

@[simp] theorem useFree_journal (s : State) :
    (useFree s).journal = s.journal := rfl

@[simp] theorem useFree_display (s : State) :
    (useFree s).display = s.display := rfl

@[simp] theorem useFree_mail (s : State) :
    (useFree s).mail = s.mail := rfl

@[simp] theorem useFree_pending (s : State) :
    (useFree s).pending = s.pending := rfl

/-! ## transmit -/

@[simp] theorem transmit_pins (k : TxKind) (d : List Word) (s : State) :
    (transmit k d s).pins = s.pins := by
  unfold transmit; split <;> rfl

@[simp] theorem transmit_modeCtl (k : TxKind) (d : List Word) (s : State) :
    (transmit k d s).modeCtl = s.modeCtl := by
  unfold transmit; split <;> rfl

@[simp] theorem transmit_prod (k : TxKind) (d : List Word) (s : State) :
    (transmit k d s).prod = s.prod := by
  unfold transmit; split <;> rfl

@[simp] theorem transmit_weigher (k : TxKind) (d : List Word) (s : State) :
    (transmit k d s).weigher = s.weigher := by
  unfold transmit; split <;> rfl

@[simp] theorem transmit_cal (k : TxKind) (d : List Word) (s : State) :
    (transmit k d s).cal = s.cal := by
  unfold transmit; split <;> rfl

@[simp] theorem transmit_pass (k : TxKind) (d : List Word) (s : State) :
    (transmit k d s).pass = s.pass := by
  unfold transmit; split <;> rfl

@[simp] theorem transmit_trucks (k : TxKind) (d : List Word) (s : State) :
    (transmit k d s).trucks = s.trucks := by
  unfold transmit; split <;> rfl

@[simp] theorem transmit_cycle (k : TxKind) (d : List Word) (s : State) :
    (transmit k d s).cycle = s.cycle := by
  unfold transmit; split <;> rfl

@[simp] theorem transmit_clock (k : TxKind) (d : List Word) (s : State) :
    (transmit k d s).clock = s.clock := by
  unfold transmit; split <;> rfl

@[simp] theorem transmit_tally (k : TxKind) (d : List Word) (s : State) :
    (transmit k d s).tally = s.tally := by
  unfold transmit; split <;> rfl

@[simp] theorem transmit_journal (k : TxKind) (d : List Word) (s : State) :
    (transmit k d s).journal = s.journal := by
  unfold transmit; split <;> rfl

@[simp] theorem transmit_display (k : TxKind) (d : List Word) (s : State) :
    (transmit k d s).display = s.display := by
  unfold transmit; split <;> rfl

@[simp] theorem transmit_mail (k : TxKind) (d : List Word) (s : State) :
    (transmit k d s).mail = s.mail := by
  unfold transmit; split <;> rfl

@[simp] theorem transmit_freeCount (k : TxKind) (d : List Word) (s : State) :
    (transmit k d s).freeCount = s.freeCount := by
  unfold transmit; split <;> rfl

@[simp] theorem transmit_pending (k : TxKind) (d : List Word) (s : State) :
    (transmit k d s).pending = s.pending := by
  unfold transmit; split <;> rfl

/-! ## raiseDump -/

@[simp] theorem raiseDump_pins (n : Nat) (s : State) :
    (raiseDump n s).pins = s.pins := rfl

@[simp] theorem raiseDump_modeCtl (n : Nat) (s : State) :
    (raiseDump n s).modeCtl = s.modeCtl := rfl

@[simp] theorem raiseDump_line (n : Nat) (s : State) :
    (raiseDump n s).line = s.line := rfl

@[simp] theorem raiseDump_prod (n : Nat) (s : State) :
    (raiseDump n s).prod = s.prod := rfl

@[simp] theorem raiseDump_weigher (n : Nat) (s : State) :
    (raiseDump n s).weigher = s.weigher := rfl

@[simp] theorem raiseDump_cal (n : Nat) (s : State) :
    (raiseDump n s).cal = s.cal := rfl

@[simp] theorem raiseDump_pass (n : Nat) (s : State) :
    (raiseDump n s).pass = s.pass := rfl

@[simp] theorem raiseDump_trucks (n : Nat) (s : State) :
    (raiseDump n s).trucks = s.trucks := rfl

@[simp] theorem raiseDump_cycle (n : Nat) (s : State) :
    (raiseDump n s).cycle = s.cycle := rfl

@[simp] theorem raiseDump_clock (n : Nat) (s : State) :
    (raiseDump n s).clock = s.clock := rfl

@[simp] theorem raiseDump_tally (n : Nat) (s : State) :
    (raiseDump n s).tally = s.tally := rfl

@[simp] theorem raiseDump_journal (n : Nat) (s : State) :
    (raiseDump n s).journal = s.journal := rfl

@[simp] theorem raiseDump_display (n : Nat) (s : State) :
    (raiseDump n s).display = s.display := rfl

@[simp] theorem raiseDump_freeCount (n : Nat) (s : State) :
    (raiseDump n s).freeCount = s.freeCount := rfl

@[simp] theorem raiseDump_pending (n : Nat) (s : State) :
    (raiseDump n s).pending = s.pending := rfl

/-! ## raiseBoomBelow -/

@[simp] theorem raiseBoomBelow_pins (s : State) :
    (raiseBoomBelow s).pins = s.pins := rfl

@[simp] theorem raiseBoomBelow_modeCtl (s : State) :
    (raiseBoomBelow s).modeCtl = s.modeCtl := rfl

@[simp] theorem raiseBoomBelow_line (s : State) :
    (raiseBoomBelow s).line = s.line := rfl

@[simp] theorem raiseBoomBelow_prod (s : State) :
    (raiseBoomBelow s).prod = s.prod := rfl

@[simp] theorem raiseBoomBelow_weigher (s : State) :
    (raiseBoomBelow s).weigher = s.weigher := rfl

@[simp] theorem raiseBoomBelow_cal (s : State) :
    (raiseBoomBelow s).cal = s.cal := rfl

@[simp] theorem raiseBoomBelow_pass (s : State) :
    (raiseBoomBelow s).pass = s.pass := rfl

@[simp] theorem raiseBoomBelow_trucks (s : State) :
    (raiseBoomBelow s).trucks = s.trucks := rfl

@[simp] theorem raiseBoomBelow_cycle (s : State) :
    (raiseBoomBelow s).cycle = s.cycle := rfl

@[simp] theorem raiseBoomBelow_clock (s : State) :
    (raiseBoomBelow s).clock = s.clock := rfl

@[simp] theorem raiseBoomBelow_tally (s : State) :
    (raiseBoomBelow s).tally = s.tally := rfl

@[simp] theorem raiseBoomBelow_journal (s : State) :
    (raiseBoomBelow s).journal = s.journal := rfl

@[simp] theorem raiseBoomBelow_display (s : State) :
    (raiseBoomBelow s).display = s.display := rfl

@[simp] theorem raiseBoomBelow_freeCount (s : State) :
    (raiseBoomBelow s).freeCount = s.freeCount := rfl

@[simp] theorem raiseBoomBelow_pending (s : State) :
    (raiseBoomBelow s).pending = s.pending := rfl

/-! ## raiseCommitReport -/

@[simp] theorem raiseCommitReport_pins (n : Nat) (s : State) :
    (raiseCommitReport n s).pins = s.pins := rfl

@[simp] theorem raiseCommitReport_modeCtl (n : Nat) (s : State) :
    (raiseCommitReport n s).modeCtl = s.modeCtl := rfl

@[simp] theorem raiseCommitReport_line (n : Nat) (s : State) :
    (raiseCommitReport n s).line = s.line := rfl

@[simp] theorem raiseCommitReport_prod (n : Nat) (s : State) :
    (raiseCommitReport n s).prod = s.prod := rfl

@[simp] theorem raiseCommitReport_weigher (n : Nat) (s : State) :
    (raiseCommitReport n s).weigher = s.weigher := rfl

@[simp] theorem raiseCommitReport_cal (n : Nat) (s : State) :
    (raiseCommitReport n s).cal = s.cal := rfl

@[simp] theorem raiseCommitReport_pass (n : Nat) (s : State) :
    (raiseCommitReport n s).pass = s.pass := rfl

@[simp] theorem raiseCommitReport_trucks (n : Nat) (s : State) :
    (raiseCommitReport n s).trucks = s.trucks := rfl

@[simp] theorem raiseCommitReport_cycle (n : Nat) (s : State) :
    (raiseCommitReport n s).cycle = s.cycle := rfl

@[simp] theorem raiseCommitReport_clock (n : Nat) (s : State) :
    (raiseCommitReport n s).clock = s.clock := rfl

@[simp] theorem raiseCommitReport_tally (n : Nat) (s : State) :
    (raiseCommitReport n s).tally = s.tally := rfl

@[simp] theorem raiseCommitReport_journal (n : Nat) (s : State) :
    (raiseCommitReport n s).journal = s.journal := rfl

@[simp] theorem raiseCommitReport_display (n : Nat) (s : State) :
    (raiseCommitReport n s).display = s.display := rfl

@[simp] theorem raiseCommitReport_freeCount (n : Nat) (s : State) :
    (raiseCommitReport n s).freeCount = s.freeCount := rfl

@[simp] theorem raiseCommitReport_pending (n : Nat) (s : State) :
    (raiseCommitReport n s).pending = s.pending := rfl

/-! ## raiseResolution -/

@[simp] theorem raiseResolution_pins (s : State) :
    (raiseResolution s).pins = s.pins := rfl

@[simp] theorem raiseResolution_modeCtl (s : State) :
    (raiseResolution s).modeCtl = s.modeCtl := rfl

@[simp] theorem raiseResolution_line (s : State) :
    (raiseResolution s).line = s.line := rfl

@[simp] theorem raiseResolution_prod (s : State) :
    (raiseResolution s).prod = s.prod := rfl

@[simp] theorem raiseResolution_weigher (s : State) :
    (raiseResolution s).weigher = s.weigher := rfl

@[simp] theorem raiseResolution_cal (s : State) :
    (raiseResolution s).cal = s.cal := rfl

@[simp] theorem raiseResolution_pass (s : State) :
    (raiseResolution s).pass = s.pass := rfl

@[simp] theorem raiseResolution_trucks (s : State) :
    (raiseResolution s).trucks = s.trucks := rfl

@[simp] theorem raiseResolution_cycle (s : State) :
    (raiseResolution s).cycle = s.cycle := rfl

@[simp] theorem raiseResolution_clock (s : State) :
    (raiseResolution s).clock = s.clock := rfl

@[simp] theorem raiseResolution_tally (s : State) :
    (raiseResolution s).tally = s.tally := rfl

@[simp] theorem raiseResolution_journal (s : State) :
    (raiseResolution s).journal = s.journal := rfl

@[simp] theorem raiseResolution_display (s : State) :
    (raiseResolution s).display = s.display := rfl

@[simp] theorem raiseResolution_freeCount (s : State) :
    (raiseResolution s).freeCount = s.freeCount := rfl

@[simp] theorem raiseResolution_pending (s : State) :
    (raiseResolution s).pending = s.pending := rfl

/-! ## requestAppend -/

@[simp] theorem requestAppend_pins (k : RecordKind) (b : List Word) (s : State) :
    (requestAppend k b s).pins = s.pins := rfl

@[simp] theorem requestAppend_modeCtl (k : RecordKind) (b : List Word) (s : State) :
    (requestAppend k b s).modeCtl = s.modeCtl := rfl

@[simp] theorem requestAppend_line (k : RecordKind) (b : List Word) (s : State) :
    (requestAppend k b s).line = s.line := rfl

@[simp] theorem requestAppend_prod (k : RecordKind) (b : List Word) (s : State) :
    (requestAppend k b s).prod = s.prod := rfl

@[simp] theorem requestAppend_weigher (k : RecordKind) (b : List Word) (s : State) :
    (requestAppend k b s).weigher = s.weigher := rfl

@[simp] theorem requestAppend_cal (k : RecordKind) (b : List Word) (s : State) :
    (requestAppend k b s).cal = s.cal := rfl

@[simp] theorem requestAppend_pass (k : RecordKind) (b : List Word) (s : State) :
    (requestAppend k b s).pass = s.pass := rfl

@[simp] theorem requestAppend_trucks (k : RecordKind) (b : List Word) (s : State) :
    (requestAppend k b s).trucks = s.trucks := rfl

@[simp] theorem requestAppend_cycle (k : RecordKind) (b : List Word) (s : State) :
    (requestAppend k b s).cycle = s.cycle := rfl

@[simp] theorem requestAppend_clock (k : RecordKind) (b : List Word) (s : State) :
    (requestAppend k b s).clock = s.clock := rfl

@[simp] theorem requestAppend_tally (k : RecordKind) (b : List Word) (s : State) :
    (requestAppend k b s).tally = s.tally := rfl

@[simp] theorem requestAppend_display (k : RecordKind) (b : List Word) (s : State) :
    (requestAppend k b s).display = s.display := rfl

@[simp] theorem requestAppend_mail (k : RecordKind) (b : List Word) (s : State) :
    (requestAppend k b s).mail = s.mail := rfl

@[simp] theorem requestAppend_freeCount (k : RecordKind) (b : List Word) (s : State) :
    (requestAppend k b s).freeCount = s.freeCount := rfl

@[simp] theorem requestAppend_pending (k : RecordKind) (b : List Word) (s : State) :
    (requestAppend k b s).pending = s.pending := rfl

/-! ## tallyRequest -/

@[simp] theorem tallyRequest_pins (f : ShiftFigures → ShiftFigures) (s : State) :
    (tallyRequest f s).pins = s.pins := rfl

@[simp] theorem tallyRequest_modeCtl (f : ShiftFigures → ShiftFigures) (s : State) :
    (tallyRequest f s).modeCtl = s.modeCtl := rfl

@[simp] theorem tallyRequest_line (f : ShiftFigures → ShiftFigures) (s : State) :
    (tallyRequest f s).line = s.line := rfl

@[simp] theorem tallyRequest_prod (f : ShiftFigures → ShiftFigures) (s : State) :
    (tallyRequest f s).prod = s.prod := rfl

@[simp] theorem tallyRequest_weigher (f : ShiftFigures → ShiftFigures) (s : State) :
    (tallyRequest f s).weigher = s.weigher := rfl

@[simp] theorem tallyRequest_cal (f : ShiftFigures → ShiftFigures) (s : State) :
    (tallyRequest f s).cal = s.cal := rfl

@[simp] theorem tallyRequest_pass (f : ShiftFigures → ShiftFigures) (s : State) :
    (tallyRequest f s).pass = s.pass := rfl

@[simp] theorem tallyRequest_trucks (f : ShiftFigures → ShiftFigures) (s : State) :
    (tallyRequest f s).trucks = s.trucks := rfl

@[simp] theorem tallyRequest_cycle (f : ShiftFigures → ShiftFigures) (s : State) :
    (tallyRequest f s).cycle = s.cycle := rfl

@[simp] theorem tallyRequest_clock (f : ShiftFigures → ShiftFigures) (s : State) :
    (tallyRequest f s).clock = s.clock := rfl

@[simp] theorem tallyRequest_journal (f : ShiftFigures → ShiftFigures) (s : State) :
    (tallyRequest f s).journal = s.journal := rfl

@[simp] theorem tallyRequest_mail (f : ShiftFigures → ShiftFigures) (s : State) :
    (tallyRequest f s).mail = s.mail := rfl

@[simp] theorem tallyRequest_freeCount (f : ShiftFigures → ShiftFigures) (s : State) :
    (tallyRequest f s).freeCount = s.freeCount := rfl

@[simp] theorem tallyRequest_pending (f : ShiftFigures → ShiftFigures) (s : State) :
    (tallyRequest f s).pending = s.pending := rfl

/-! ## setEntries -/

@[simp] theorem setEntries_pins (l : List TruckEntry) (s : State) :
    (setEntries l s).pins = s.pins := rfl

@[simp] theorem setEntries_modeCtl (l : List TruckEntry) (s : State) :
    (setEntries l s).modeCtl = s.modeCtl := rfl

@[simp] theorem setEntries_line (l : List TruckEntry) (s : State) :
    (setEntries l s).line = s.line := rfl

@[simp] theorem setEntries_prod (l : List TruckEntry) (s : State) :
    (setEntries l s).prod = s.prod := rfl

@[simp] theorem setEntries_weigher (l : List TruckEntry) (s : State) :
    (setEntries l s).weigher = s.weigher := rfl

@[simp] theorem setEntries_cal (l : List TruckEntry) (s : State) :
    (setEntries l s).cal = s.cal := rfl

@[simp] theorem setEntries_pass (l : List TruckEntry) (s : State) :
    (setEntries l s).pass = s.pass := rfl

@[simp] theorem setEntries_cycle (l : List TruckEntry) (s : State) :
    (setEntries l s).cycle = s.cycle := rfl

@[simp] theorem setEntries_clock (l : List TruckEntry) (s : State) :
    (setEntries l s).clock = s.clock := rfl

@[simp] theorem setEntries_tally (l : List TruckEntry) (s : State) :
    (setEntries l s).tally = s.tally := rfl

@[simp] theorem setEntries_journal (l : List TruckEntry) (s : State) :
    (setEntries l s).journal = s.journal := rfl

@[simp] theorem setEntries_mail (l : List TruckEntry) (s : State) :
    (setEntries l s).mail = s.mail := rfl

@[simp] theorem setEntries_freeCount (l : List TruckEntry) (s : State) :
    (setEntries l s).freeCount = s.freeCount := rfl

@[simp] theorem setEntries_pending (l : List TruckEntry) (s : State) :
    (setEntries l s).pending = s.pending := rfl

/-! ## setCycle -/

@[simp] theorem setCycle_pins (c : CycleTracker) (s : State) :
    (setCycle c s).pins = s.pins := rfl

@[simp] theorem setCycle_modeCtl (c : CycleTracker) (s : State) :
    (setCycle c s).modeCtl = s.modeCtl := rfl

@[simp] theorem setCycle_line (c : CycleTracker) (s : State) :
    (setCycle c s).line = s.line := rfl

@[simp] theorem setCycle_prod (c : CycleTracker) (s : State) :
    (setCycle c s).prod = s.prod := rfl

@[simp] theorem setCycle_weigher (c : CycleTracker) (s : State) :
    (setCycle c s).weigher = s.weigher := rfl

@[simp] theorem setCycle_cal (c : CycleTracker) (s : State) :
    (setCycle c s).cal = s.cal := rfl

@[simp] theorem setCycle_pass (c : CycleTracker) (s : State) :
    (setCycle c s).pass = s.pass := rfl

@[simp] theorem setCycle_trucks (c : CycleTracker) (s : State) :
    (setCycle c s).trucks = s.trucks := rfl

@[simp] theorem setCycle_clock (c : CycleTracker) (s : State) :
    (setCycle c s).clock = s.clock := rfl

@[simp] theorem setCycle_tally (c : CycleTracker) (s : State) :
    (setCycle c s).tally = s.tally := rfl

@[simp] theorem setCycle_journal (c : CycleTracker) (s : State) :
    (setCycle c s).journal = s.journal := rfl

@[simp] theorem setCycle_display (c : CycleTracker) (s : State) :
    (setCycle c s).display = s.display := rfl

@[simp] theorem setCycle_mail (c : CycleTracker) (s : State) :
    (setCycle c s).mail = s.mail := rfl

@[simp] theorem setCycle_freeCount (c : CycleTracker) (s : State) :
    (setCycle c s).freeCount = s.freeCount := rfl

@[simp] theorem setCycle_pending (c : CycleTracker) (s : State) :
    (setCycle c s).pending = s.pending := rfl

/-! ## setProducers -/

@[simp] theorem setProducers_pins (p : ProducerTable) (s : State) :
    (setProducers p s).pins = s.pins := by
  unfold setProducers; split <;> rfl

@[simp] theorem setProducers_modeCtl (p : ProducerTable) (s : State) :
    (setProducers p s).modeCtl = s.modeCtl := by
  unfold setProducers; split <;> rfl

@[simp] theorem setProducers_line (p : ProducerTable) (s : State) :
    (setProducers p s).line = s.line := by
  unfold setProducers; split <;> rfl

@[simp] theorem setProducers_weigher (p : ProducerTable) (s : State) :
    (setProducers p s).weigher = s.weigher := by
  unfold setProducers; split <;> rfl

@[simp] theorem setProducers_cal (p : ProducerTable) (s : State) :
    (setProducers p s).cal = s.cal := by
  unfold setProducers; split <;> rfl

@[simp] theorem setProducers_pass (p : ProducerTable) (s : State) :
    (setProducers p s).pass = s.pass := by
  unfold setProducers; split <;> rfl

@[simp] theorem setProducers_trucks (p : ProducerTable) (s : State) :
    (setProducers p s).trucks = s.trucks := by
  unfold setProducers; split <;> rfl

@[simp] theorem setProducers_cycle (p : ProducerTable) (s : State) :
    (setProducers p s).cycle = s.cycle := by
  unfold setProducers; split <;> rfl

@[simp] theorem setProducers_clock (p : ProducerTable) (s : State) :
    (setProducers p s).clock = s.clock := by
  unfold setProducers; split <;> rfl

@[simp] theorem setProducers_tally (p : ProducerTable) (s : State) :
    (setProducers p s).tally = s.tally := by
  unfold setProducers; split <;> rfl

@[simp] theorem setProducers_journal (p : ProducerTable) (s : State) :
    (setProducers p s).journal = s.journal := by
  unfold setProducers; split <;> rfl

@[simp] theorem setProducers_mail (p : ProducerTable) (s : State) :
    (setProducers p s).mail = s.mail := by
  unfold setProducers; split <;> rfl

@[simp] theorem setProducers_freeCount (p : ProducerTable) (s : State) :
    (setProducers p s).freeCount = s.freeCount := by
  unfold setProducers; split <;> rfl

@[simp] theorem setProducers_pending (p : ProducerTable) (s : State) :
    (setProducers p s).pending = s.pending := by
  unfold setProducers; split <;> rfl

/-! ## setCapture -/

@[simp] theorem setCapture_pins (x : CaptureState) (s : State) :
    (setCapture x s).pins = s.pins := rfl

@[simp] theorem setCapture_modeCtl (x : CaptureState) (s : State) :
    (setCapture x s).modeCtl = s.modeCtl := rfl

@[simp] theorem setCapture_line (x : CaptureState) (s : State) :
    (setCapture x s).line = s.line := rfl

@[simp] theorem setCapture_prod (x : CaptureState) (s : State) :
    (setCapture x s).prod = s.prod := rfl

@[simp] theorem setCapture_weigher (x : CaptureState) (s : State) :
    (setCapture x s).weigher = s.weigher := rfl

@[simp] theorem setCapture_pass (x : CaptureState) (s : State) :
    (setCapture x s).pass = s.pass := rfl

@[simp] theorem setCapture_trucks (x : CaptureState) (s : State) :
    (setCapture x s).trucks = s.trucks := rfl

@[simp] theorem setCapture_cycle (x : CaptureState) (s : State) :
    (setCapture x s).cycle = s.cycle := rfl

@[simp] theorem setCapture_clock (x : CaptureState) (s : State) :
    (setCapture x s).clock = s.clock := rfl

@[simp] theorem setCapture_tally (x : CaptureState) (s : State) :
    (setCapture x s).tally = s.tally := rfl

@[simp] theorem setCapture_journal (x : CaptureState) (s : State) :
    (setCapture x s).journal = s.journal := rfl

@[simp] theorem setCapture_mail (x : CaptureState) (s : State) :
    (setCapture x s).mail = s.mail := rfl

@[simp] theorem setCapture_freeCount (x : CaptureState) (s : State) :
    (setCapture x s).freeCount = s.freeCount := rfl

@[simp] theorem setCapture_pending (x : CaptureState) (s : State) :
    (setCapture x s).pending = s.pending := rfl

/-! ## startHold -/

@[simp] theorem startHold_pins (s : State) :
    (startHold s).pins = s.pins := rfl

@[simp] theorem startHold_modeCtl (s : State) :
    (startHold s).modeCtl = s.modeCtl := rfl

@[simp] theorem startHold_line (s : State) :
    (startHold s).line = s.line := rfl

@[simp] theorem startHold_prod (s : State) :
    (startHold s).prod = s.prod := rfl

@[simp] theorem startHold_weigher (s : State) :
    (startHold s).weigher = s.weigher := rfl

@[simp] theorem startHold_cal (s : State) :
    (startHold s).cal = s.cal := rfl

@[simp] theorem startHold_pass (s : State) :
    (startHold s).pass = s.pass := rfl

@[simp] theorem startHold_trucks (s : State) :
    (startHold s).trucks = s.trucks := rfl

@[simp] theorem startHold_cycle (s : State) :
    (startHold s).cycle = s.cycle := rfl

@[simp] theorem startHold_clock (s : State) :
    (startHold s).clock = s.clock := rfl

@[simp] theorem startHold_tally (s : State) :
    (startHold s).tally = s.tally := rfl

@[simp] theorem startHold_journal (s : State) :
    (startHold s).journal = s.journal := rfl

@[simp] theorem startHold_mail (s : State) :
    (startHold s).mail = s.mail := rfl

@[simp] theorem startHold_freeCount (s : State) :
    (startHold s).freeCount = s.freeCount := rfl

@[simp] theorem startHold_pending (s : State) :
    (startHold s).pending = s.pending := rfl

/-! ## stopHold -/

@[simp] theorem stopHold_pins (s : State) :
    (stopHold s).pins = s.pins := rfl

@[simp] theorem stopHold_modeCtl (s : State) :
    (stopHold s).modeCtl = s.modeCtl := rfl

@[simp] theorem stopHold_line (s : State) :
    (stopHold s).line = s.line := rfl

@[simp] theorem stopHold_prod (s : State) :
    (stopHold s).prod = s.prod := rfl

@[simp] theorem stopHold_weigher (s : State) :
    (stopHold s).weigher = s.weigher := rfl

@[simp] theorem stopHold_cal (s : State) :
    (stopHold s).cal = s.cal := rfl

@[simp] theorem stopHold_pass (s : State) :
    (stopHold s).pass = s.pass := rfl

@[simp] theorem stopHold_trucks (s : State) :
    (stopHold s).trucks = s.trucks := rfl

@[simp] theorem stopHold_cycle (s : State) :
    (stopHold s).cycle = s.cycle := rfl

@[simp] theorem stopHold_clock (s : State) :
    (stopHold s).clock = s.clock := rfl

@[simp] theorem stopHold_tally (s : State) :
    (stopHold s).tally = s.tally := rfl

@[simp] theorem stopHold_journal (s : State) :
    (stopHold s).journal = s.journal := rfl

@[simp] theorem stopHold_mail (s : State) :
    (stopHold s).mail = s.mail := rfl

@[simp] theorem stopHold_freeCount (s : State) :
    (stopHold s).freeCount = s.freeCount := rfl

@[simp] theorem stopHold_pending (s : State) :
    (stopHold s).pending = s.pending := rfl

/-! ## askDrain -/

@[simp] theorem askDrain_pins (s : State) :
    (askDrain s).pins = s.pins := rfl

@[simp] theorem askDrain_modeCtl (s : State) :
    (askDrain s).modeCtl = s.modeCtl := rfl

@[simp] theorem askDrain_line (s : State) :
    (askDrain s).line = s.line := rfl

@[simp] theorem askDrain_prod (s : State) :
    (askDrain s).prod = s.prod := rfl

@[simp] theorem askDrain_weigher (s : State) :
    (askDrain s).weigher = s.weigher := rfl

@[simp] theorem askDrain_cal (s : State) :
    (askDrain s).cal = s.cal := rfl

@[simp] theorem askDrain_pass (s : State) :
    (askDrain s).pass = s.pass := rfl

@[simp] theorem askDrain_trucks (s : State) :
    (askDrain s).trucks = s.trucks := rfl

@[simp] theorem askDrain_cycle (s : State) :
    (askDrain s).cycle = s.cycle := rfl

@[simp] theorem askDrain_clock (s : State) :
    (askDrain s).clock = s.clock := rfl

@[simp] theorem askDrain_tally (s : State) :
    (askDrain s).tally = s.tally := rfl

@[simp] theorem askDrain_display (s : State) :
    (askDrain s).display = s.display := rfl

@[simp] theorem askDrain_mail (s : State) :
    (askDrain s).mail = s.mail := rfl

@[simp] theorem askDrain_freeCount (s : State) :
    (askDrain s).freeCount = s.freeCount := rfl

@[simp] theorem askDrain_pending (s : State) :
    (askDrain s).pending = s.pending := rfl

/-! ## setRestartPending -/

@[simp] theorem setRestartPending_pins (b : Bool) (s : State) :
    (setRestartPending b s).pins = s.pins := rfl

@[simp] theorem setRestartPending_line (b : Bool) (s : State) :
    (setRestartPending b s).line = s.line := rfl

@[simp] theorem setRestartPending_prod (b : Bool) (s : State) :
    (setRestartPending b s).prod = s.prod := rfl

@[simp] theorem setRestartPending_weigher (b : Bool) (s : State) :
    (setRestartPending b s).weigher = s.weigher := rfl

@[simp] theorem setRestartPending_cal (b : Bool) (s : State) :
    (setRestartPending b s).cal = s.cal := rfl

@[simp] theorem setRestartPending_pass (b : Bool) (s : State) :
    (setRestartPending b s).pass = s.pass := rfl

@[simp] theorem setRestartPending_trucks (b : Bool) (s : State) :
    (setRestartPending b s).trucks = s.trucks := rfl

@[simp] theorem setRestartPending_cycle (b : Bool) (s : State) :
    (setRestartPending b s).cycle = s.cycle := rfl

@[simp] theorem setRestartPending_clock (b : Bool) (s : State) :
    (setRestartPending b s).clock = s.clock := rfl

@[simp] theorem setRestartPending_tally (b : Bool) (s : State) :
    (setRestartPending b s).tally = s.tally := rfl

@[simp] theorem setRestartPending_journal (b : Bool) (s : State) :
    (setRestartPending b s).journal = s.journal := rfl

@[simp] theorem setRestartPending_display (b : Bool) (s : State) :
    (setRestartPending b s).display = s.display := rfl

@[simp] theorem setRestartPending_mail (b : Bool) (s : State) :
    (setRestartPending b s).mail = s.mail := rfl

@[simp] theorem setRestartPending_freeCount (b : Bool) (s : State) :
    (setRestartPending b s).freeCount = s.freeCount := rfl

@[simp] theorem setRestartPending_pending (b : Bool) (s : State) :
    (setRestartPending b s).pending = s.pending := rfl

/-! ## What each update writes -/

@[simp] theorem notice_display (s : State) : (notice s).display = { s.display with stale := true } := rfl

@[simp] theorem placeMessage_display (m : Message) (s : State) :
    (placeMessage m s).display =
      { s.display with message := some m, messageTimer := some 3000, stale := true } := rfl

@[simp] theorem clearMessage_display (s : State) :
    (clearMessage s).display =
      { s.display with message := none, messageTimer := none, stale := true } := rfl

@[simp] theorem useFree_freeCount (s : State) : (useFree s).freeCount = s.freeCount + 1 := rfl

@[simp] theorem raiseDump_mail (n : Nat) (s : State) :
    (raiseDump n s).mail = { s.mail with dumps := s.mail.dumps ++ [n] } := rfl

@[simp] theorem raiseBoomBelow_mail (s : State) :
    (raiseBoomBelow s).mail = { s.mail with boomBelow := s.mail.boomBelow + 1 } := rfl

@[simp] theorem raiseCommitReport_mail (n : Nat) (s : State) :
    (raiseCommitReport n s).mail = { s.mail with commits := s.mail.commits ++ [n] } := rfl

@[simp] theorem raiseResolution_mail (s : State) :
    (raiseResolution s).mail = { s.mail with resolutions := s.mail.resolutions + 1 } := rfl

@[simp] theorem requestAppend_journal (k : RecordKind) (b : List Word) (s : State) :
    (requestAppend k b s).journal = (s.journal.append k b).1 := rfl

@[simp] theorem tallyRequest_tally (f : ShiftFigures → ShiftFigures) (s : State) :
    (tallyRequest f s).tally = f s.tally := rfl

@[simp] theorem tallyRequest_display (f : ShiftFigures → ShiftFigures) (s : State) :
    (tallyRequest f s).display = { s.display with stale := true } := rfl

@[simp] theorem setEntries_entries (l : List TruckEntry) (s : State) :
    (setEntries l s).trucks = { s.trucks with entries := l } := rfl

@[simp] theorem setEntries_display (l : List TruckEntry) (s : State) :
    (setEntries l s).display = { s.display with stale := true } := rfl

@[simp] theorem setCycle_cycle (c : CycleTracker) (s : State) : (setCycle c s).cycle = c := rfl

@[simp] theorem setProducers_prod (p : ProducerTable) (s : State) : (setProducers p s).prod = p := by
  unfold setProducers; split <;> rfl

@[simp] theorem setCapture_cal (x : CaptureState) (s : State) :
    (setCapture x s).cal = { s.cal with capture := x } := rfl

@[simp] theorem setCapture_display (x : CaptureState) (s : State) :
    (setCapture x s).display = { s.display with stale := true } := rfl

@[simp] theorem startHold_display (s : State) :
    (startHold s).display = { s.display with deleteHold := some 0 } := rfl

@[simp] theorem stopHold_display (s : State) :
    (stopHold s).display = { s.display with deleteHold := none } := rfl

@[simp] theorem askDrain_journal (s : State) :
    (askDrain s).journal = { s.journal with drainAsked := true } := rfl

@[simp] theorem setRestartPending_modeCtl (b : Bool) (s : State) :
    (setRestartPending b s).modeCtl = { s.modeCtl with restartPending := b } := rfl

end Sys2Proof.Machine
end

