-- ==== Sys2Proof/WellFormed.lean ====
section
/-! DEFINITION. Which commands the outside can send. A meaning is total: a command that fails a check here
names an event that the spec says cannot happen, and it has no effect. -/

namespace Sys2Proof

/-- TIME and TRUCK slots keep no value and no value age (R58, R65), so none of theirs turns stale. -/
def Channel.isSample (ch : Channel) : Bool :=
  match ch with
  | .time | .truck => false
  | _ => true

/-- A telegram has at most 19 words, of two characters each (R203); a length field of up to 31 can be
read before it is found wrong (R206), so at most 68 characters are read. -/
def maxWireChars : Nat := 68

/-- The checks on a command's operands. -/
def Instr.wellFormed (i : Instr) : Bool :=
  match i with
  | .valueStale ch _ => ch.isSample
  | .telegramReceived chars => 0 < chars.length && chars.length ≤ maxWireChars
  | _ => true

end Sys2Proof
end

