-- ==== Sys2Proof/Tests/Slice0.lean ====
section
/-! SUPPORT. Tests of the model: the checks on commands, the worked examples of the spec (each test names its
source), one step of each command on a small state, and a witness for the hypotheses of every statement. -/

namespace Sys2Proof.Tests

open Sys2Proof Sys2Proof.Machine

/-! ## Small states -/

/-- What a command leaves. -/
def after (c : Instr) (s : State) : State :=
  match exec c s with
  | .next t => t
  | .fault _ => s
  | .refused _ => s

/-- The straps of station 12 at 250 kbit/s (10.7). -/
def straps12 : Straps := { station := 12, rate0 := true, rate1 := false }

/-- State.reset in a mode, as station 12. -/
def inMode (m : Mode) : State :=
  { State.reset with modeCtl := { State.reset.modeCtl with mode := m, station := 12, listenOnly := false } }

/-- A part held in reset. -/
def held : State := { State.reset with pins := { State.reset.pins with resetLow := true } }

/-- A part in RUN: the Weigher in ABOVE, the Cycle Tracker following, the Line Interface waiting. -/
def inRun : State :=
  { inMode .run with
    weigher := { Weigher.start with state := .above }, cycle := { CycleTracker.start with hold := false },
    line := { LineInterface.start with listening := true, access := .waitIdle, heartbeat := some 1000 } }

/-- A part in SERVICE with its working copy. -/
def inService : State :=
  { inMode .service with cal := { State.reset.cal with working := some MachineRecord.default } }

/-- A part in STANDBY, its blank frame sent, with the key off. -/
def inStandby : State :=
  let s := inMode .standby
  { s with modeCtl := { s.modeCtl with keyOn := false } }

/-- A pass of 9,054 kg weighed 14 times (4.6). -/
def pass9054 : PassRecord :=
  { weight := 9054, fill := 943, flags := .none, samples := 14, stamp := 0, material := .m1 }

/-- `inRun` with that pass pending. -/
def withPass : State :=
  { inRun with weigher := { Weigher.start with state := .held }, pass := { PassUnit.start with pending := some pass9054 } }

/-- Truck 40117 with the three passes of 8.7 and the target of 5.9. -/
def truck40117 : TruckEntry :=
  { identity := some 40117, target := 36000, total := 27350,
    passes := [{ number := 1, weight := 9120, flags := .none }, { number := 2, weight := 9480, flags := .none },
      { number := 3, weight := 8750, flags := { QualityFlags.none with spread := true } }],
    flags := { overload := false, quality := true } }

/-- An announced truck without passes. -/
def waitingTruck (id : BitVec 32) : TruckEntry :=
  { identity := some id, target := 45000, passes := [], total := 0,
    flags := { overload := false, quality := false } }

/-- `inRun` loading truck 40117 with truck 40233 waiting, in the record and shift of 5.9. -/
def loading : State :=
  { inRun with
    trucks := { TruckList.start with entries := [truck40117, waitingTruck 40233] },
    cal := { State.reset.cal with active := { MachineRecord.default with volume := 6000 } },
    tally := { State.reset.tally with shift := 212, passes := 15, trucks := 3, payload := 137750 } }

/-- A HEARTBEAT waiting in the transmit queue. -/
def beat0 : TxTelegram :=
  { kind := .heartbeat, seq := 5, data := List.replicate 7 0, attempts := 0, sending := false }

/-- A slot that holds a station with a fresh value. -/
def slotOf (station : Nat) (v : Int) : Slot :=
  { Slot.cleared with
    station := some station, state := .active, lastValue := some v, lastStatus := some .ok,
    lastSeq := some 5, linkAge := some 0, valueAge := some 0 }

/-- `inRun` with a slot filled. -/
def withSlot (ch : Channel) (x : Slot) : State := { inRun with prod := inRun.prod.setSlot ch .primary x }

/-- A state with one telegram in the inbox. -/
def withMail (t : RxTelegram) (s : State) : State := { s with line := { s.line with inbox := [t] } }

/-! ## The checks on commands refuse an ill-formed one -/

theorem test_stale_time_refused : (Instr.valueStale .time .primary).wellFormed = false := by decide
theorem test_stale_truck_refused : (Instr.valueStale .truck .secondary).wellFormed = false := by decide
theorem test_stale_drive_accepted : (Instr.valueStale .drive .primary).wellFormed = true := by decide
theorem test_empty_telegram_refused : (Instr.telegramReceived []).wellFormed = false := by decide
theorem test_long_telegram_refused :
    (Instr.telegramReceived (List.replicate 69 1)).wellFormed = false := by decide
theorem test_longest_telegram_accepted :
    (Instr.telegramReceived (List.replicate 68 1)).wellFormed = true := by decide

/-- The table gives its rows no bits, so no word spells a command. -/
theorem test_no_word_spells_a_command : decodeTableWord 16 0xFFFF = none := by decide

/-! ## Worked examples of the spec -/

/-- The record of the worked estimate (1.2): only points 6 and 7 are given there. -/
def record12 : MachineRecord := { MachineRecord.default with headArea := 62800, rodArea := 33000 }

/-- The curves of the worked estimate (1.2). -/
def curves12 : Curves :=
  { empty := (Vector.replicate 16 640000).set 7 632000, loaded := (Vector.replicate 16 1180000).set 7 1172000,
    refLoad := 10000 }

/-- The sample set of the worked estimate (1.2). -/
def set12 : SampleSet :=
  { ph := 18500, pr := 1200, theta := 1250, beta := 3100, phi := some 800, degraded := false, disagree := false }

/-- 1.2: the force, 9,054 kg, and 8,967 kg without the slope correction. -/
theorem test_worked_estimate :
    liftForce 62800 33000 18500 1200 = 1122200 ∧ estimate record12 curves12 set12 = 9054 ∧
      estimate record12 curves12 { set12 with phi := some 0 } = 8967 := by decide

/-- R9: the quotient of a falling curve is rounded away from zero. -/
theorem test_rounding : roundDiv (-8000 * 3) 200 = -120 ∧ roundDiv (-7900 * 3) 200 = -119 := by decide

/-- R11: the slope factors at 0, 8, 15 and 20 degrees, and without pitch. -/
theorem test_slope_factors :
    [some 0, some (-800), some 1500, some 2500, none].map slopeFactor =
      [10000, 10097, 10342, 10609, 10000] := by decide

/-- 4.2: the worked fills. -/
theorem test_worked_fills :
    let r := { MachineRecord.default with volume := 6000 }
    [Material.m1, .m2, .m3, .m4].map (fun m => passFill r m 9054) = [943, 838, 755, 629] ∧
      passFill r .m1 12600 = 1313 ∧
      passFill { r with volume := 1000, rho1 := 500 } .m1 900 = 1500 := by decide

/-- R118, R119: the rated load, the advice and the overload limit of 5.9. -/
theorem test_worked_advice :
    ratedLoad loading = 9600 ∧ adviceFor 9600 truck40117 = .lastPass ∧ overloadLimit 36000 50 = 37800 := by
  decide

/-- 5.9: the commit of 10,460 kg overloads the truck, and the DELETE after it takes that back. -/
theorem test_worked_loading :
    let e := truck40117.withPass 50 { pass9054 with weight := 10460 }
    e.total = 37810 ∧ e.flags = { overload := true, quality := true } ∧
      e.withoutLast 50 10460 = truck40117 := by decide

/-- R40: the two worked WRITEs to the window. -/
theorem test_worked_writes :
    let r := MachineRecord.default
    ((r.write 4 3010).thetaHi, writeAnswer r (r.write 4 3010) 4 3010) = (3000, .clamped) ∧
      ((r.write 3 100).thetaHi, writeAnswer r (r.write 3 100) 3 100) = (2995, .clamped) := by decide

/-- R62: the losses charged for the numbers given there. -/
theorem test_lost_telegrams :
    [(5, 6), (5, 9), (14, 2), (5, 4)].map (fun p => ((Slot.judgeSeq
      { Slot.cleared with lastSeq := some p.1 } p.2).1).lost) = [0, 3, 3, 14] := by decide

/-- R148: the dates given there. -/
theorem test_dates :
    let day := fun (y m d : Nat) => ({ year := y, month := m, day := d, hour := 0, minute := 0, second := 0 } : Calendar)
    [(day 2024 2 29).isValid, (day 2023 2 29).isValid, (day 2024 4 31).isValid,
      ({ day 2024 1 1 with second := 60 } : Calendar).isValid] = [true, false, false, false] := by decide

/-- R147: past the last second of 2099. -/
theorem test_calendar_wraps :
    Calendar.nextSecond { year := 2099, month := 12, day := 31, hour := 23, minute := 59, second := 59 } =
      Calendar.afterReset := by decide

/-- R153: a forward step over 06:00 finds a change; a step back and one of more than 12 h find none. -/
theorem test_steps_find_changes :
    [stepFindsChange [360] 21570 270, stepFindsChange [360] 21570 (-43170),
      stepFindsChange [360] 0 43201] = [true, false, false] := by decide

/-- 7.4: the worked rates and averages. -/
theorem test_worked_rates :
    let rate := fun (payload elapsed : Nat) => shiftRate { inRun with
      clock := { State.reset.clock with
        timeSet := true,
        calendar := { Calendar.afterReset with
          hour := elapsed / 3600, minute := elapsed / 60 % 60, second := elapsed % 60 } },
      tally := { ShiftFigures.opened 1 0 true with payload := payload } }
    rate 100000 3600 = some 1000 ∧ rate 9300 299 = none ∧ rate 9300 300 = some 1116 ∧
      averageCycle { State.reset.tally with cycles := 648, cycleTimeSum := 182736 } = some 282 ∧
      averageCycle { State.reset.tally with cycles := 3, cycleTimeSum := 871 } = some 290 := by decide

/-- R174: three equal scans in a row press a key. -/
theorem test_key_debounce :
    let x := KeyState.start
    ((x.scan true).scan true).pressed = false ∧ (((x.scan true).scan true).scan true).pressed = true ∧
      ((((x.scan true).scan true).scan false).scan true).pressed = false := by decide

/-- R181: a fill of 943 permille lights 18 segments, and 1,500 lights all 20. -/
theorem test_bar : barSegments 943 = 18 ∧ barSegments 1500 = 20 := by decide

/-- 10.7: the deferrals of station 12. -/
theorem test_deferrals :
    deferral { beat0 with kind := .passResult } 12 = 44 ∧ deferral beat0 12 = 76 := by decide

set_option maxRecDepth 20000 in
/-- R204: the nine characters 123456789 give 0x29B1 under that generator and start value (the published check
value); the first eight are four whole words. -/
theorem test_crc :
    crcBits 0x0039#16 8 (crc [0x3132#16, 0x3334#16, 0x3536#16, 0x3738#16]) = 0x29B1#16 := by decide

/-! ## The display (chapter 8.7) -/

/-- R180: the LOAD page's second line for truck 40117. -/
theorem test_load_page : (loadPage loading).line2 = txt "  27.4/36.0 R   8650" := by decide

/-- R182: the worked SHIFT page. -/
theorem test_shift_page :
    let s := { inRun with
      cycle := { inRun.cycle with last := some { CycleRecord.fresh 648 with total := 276 } },
      tally := { State.reset.tally with cycles := 648, trucks := 97, payload := 5521300, cycleTimeSum := 182736 } }
    (shiftPage s).line1 = txt "C  648 L 27.6 A 28.2" ∧
      ((shiftPage s).line2.take 13 = txt "K 97  5521.3T") := by decide

/-! ## One step of each command -/

/-- R226: a release over an erased array leaves the state after reset, with the straps and the next cut's
free value as the model counts them. -/
theorem test_power_on :
    (after (.powerOn strapsAtReset) held).modeCtl = State.reset.modeCtl ∧
      (after (.powerOn straps12) held).modeCtl.station = 12 ∧
      (after (.powerOn straps12) held).modeCtl.rate = .kbit250 := by decide

theorem test_reset_line_low_silences : (after .resetLineLow inRun).line.access = .silent := by decide

theorem test_reset_line_release_listens_only :
    (after (.resetLineRelease { straps12 with station := 31 }) held).modeCtl.listenOnly = true := by decide

/-- R221: the part enters JOIN, and its first frame shows the START screen. -/
theorem test_join :
    (after .join (inMode .start)).modeCtl.mode = .join ∧
      (after .join (inMode .start)).display.port = .shifting ∧
      (after .join (inMode .start)).display.image = composeFrame (inMode .start) := by decide

theorem test_key_switch_edge :
    (after (.keySwitchEdge false) { inRun with modeCtl := { inRun.modeCtl with stability := 99 } }).modeCtl.stability
      = 0 := by decide

/-- R224: a key-off in RUN with nothing to write still waits for the snapshot to be written. -/
theorem test_key_off :
    (after (.keySwitchLevelChange false straps12) inRun).modeCtl.mode = .closing ∧
      (after (.keySwitchLevelChange false straps12) inRun).journal.job.map (fun j => j.kind) =
        some .shiftSnapshot := by decide

theorem test_join_end : (after .joinEnd (inMode .join)).modeCtl.mode = .run := by decide

theorem test_restart :
    (after (.restart straps12) { inStandby with
      modeCtl := { inStandby.modeCtl with restartPending := true } }).modeCtl.mode = .start := by decide

/-- A DRIVE telegram of station 2, sequence 5, REVERSE, written out character by character (R203, R219): the
header words 0x10C0 and 0x5002, the data 0 and 2, and the CRC 0x6ECA. -/
def driveReverse : List WireChar :=
  [0x021#10, 0x181#10, 0x0A1#10, 0x005#10, 0x001#10, 0x001#10, 0x001#10, 0x005#10, 0x0DD#10, 0x195#10]

set_option maxRecDepth 20000 in
theorem test_telegram_received :
    (after (.telegramReceived driveReverse) inRun).line.inbox =
      [{ sender := 2, kind := .drive, seq := 5, data := [0, 2] }] := by decide

set_option maxRecDepth 20000 in
/-- R206: with one data bit turned over, the error counts against DRIVE. -/
theorem test_telegram_with_an_error :
    (after (.telegramReceived (driveReverse.set 7 0x003#10)) inRun).line.receiveErrors[5] = 1 := by decide

/-- R59, R64: the first telegram of a channel fills slot 1 and makes it ACTIVE. -/
theorem test_dispatch :
    let s := after .dispatch (withMail { sender := 2, kind := .drive, seq := 5, data := [0, 2] } inRun)
    (s.prod.slot .drive .primary).station = some 2 ∧ (s.prod.slot .drive .primary).state = .active ∧
      s.line.inbox = [] := by decide

/-- R60: at 1,000 ms the loss is counted; below it the expiry does not happen. -/
theorem test_link_silence :
    let lost := fun (age : Nat) => ((after (.linkSilence .boom .primary)
      (withSlot .boom { slotOf 7 100 with linkAge := some age })).prod.slot .boom .primary).lost
    lost 1000 = 1 ∧ lost 999 = 0 := by decide

theorem test_value_stale :
    ((after (.valueStale .boom .primary) (withSlot .boom (slotOf 7 100))).prod.channelState .boom) =
      .unavailable := by decide

theorem test_idle_gap : (after .idleGap inRun).line.access = .defer := by decide

/-- A part in DEFER with one telegram, `n` slots counted. -/
def deferring (n : Nat) : State :=
  { inRun with line := { inRun.line with access := .defer, slotCount := n, queue := [beat0] } }

/-- 10.7: a class 2 telegram of station 12 begins at the end of slot 76 and not before. -/
theorem test_defer_slot :
    (after .deferSlot (deferring 74)).line.access = .defer ∧
      (after .deferSlot (deferring 75)).line.access = .send := by decide

theorem test_carrier : (after .carrier (deferring 75)).line.access = .waitIdle := by decide

/-- A part that is sending, with `n` collisions in a row behind it. -/
def sending (n : Nat) : State :=
  { inRun with line := { inRun.line with
      access := .send, collisions := n, queue := [{ beat0 with sending := true }] } }

theorem test_transmit_success : (after .transmitSuccess (sending 2)).line.queue = [] := by decide

/-- R212: the third collision in a row sets CLASH. -/
theorem test_collision :
    (after .collision (sending 1)).line.clash = false ∧ (after .collision (sending 2)).line.clash = true := by
  decide

/-- R217, R219: mode RUN, the time not set, no calibration, no channel learned, shift 1. -/
theorem test_heartbeat :
    (after .heartbeat inRun).line.queue.map (fun t => t.data.take 3) = [[0x4000, 0, 1]] := by decide

/-- `inRun` in IN_WINDOW, the boom last seen below the window, both timers of the lift at a count. -/
def inWindow (input stall : Nat) : State :=
  { inRun with weigher := { Weigher.start with
      state := .inWindow, lastBoom := some (-1),
      acc := { Accumulator.cleared with inputTimer := some input, stallTimer := some stall } } }

/-- R18, R21: at 250 ms the lift is aborted, and a set taken just before has restarted the timer. -/
theorem test_input_lost :
    (after .inputLost (inWindow 250 0)).tally.aborted = 1 ∧
      (after .inputLost (inWindow 249 0)).tally.aborted = 0 := by decide

theorem test_stall :
    (after .stall (inWindow 0 3000)).weigher.state = .below ∧
      (after .stall (inWindow 0 2999)).weigher.state = .inWindow := by decide

theorem test_resolution_report :
    (after .resolutionReport { inRun with
      weigher := { Weigher.start with state := .held }, mail := { Mail.start with resolutions := 1 } }).weigher.state
      = .above := by decide

/-- A capture whose empty lift is under way. -/
def capturing : State :=
  { inService with cal := { inService.cal with
      capture := .emptyArmed, phase := .inCapture, inputTimer := some 250 } }

theorem test_capture_input_lost : (after .captureInputLost capturing).cal.phase = .awaitBelow := by decide

/-- A state after its first frame, no frame due, with one key down in the last two scans. -/
def pressing (k : Key) (s : State) : State :=
  { s with display := { s.display with
      sinceFrame := some 60, stale := false, keyMark := some 20,
      keys := s.display.keys.set (keyIdx k) { pressed := false, lastScan := some true, run := 2 } } }

/-- R174, R178: the third scan presses PAGE, which shows the next page. -/
theorem test_key_read :
    (after (.keyRead 1) (pressing .page inRun)).display.page = .bucket ∧
      (after (.keyRead 0) (pressing .page inRun)).display.page = .load := by decide

/-- R172: a frame due with the read goes first, and the read waits for its latch pulse. -/
theorem test_key_read_after_frame :
    let s := after (.keyRead 1) { pressing .page inRun with
      display := { (pressing .page inRun).display with stale := true } }
    s.display.port = .shifting ∧ s.display.readWaiting = true ∧
      (after .frameLatch s).display.page = .bucket := by decide

/-- `withPass` with DELETE held. -/
def deleting (s : State) : State := { s with display := { s.display with deleteHold := some 2000 } }

theorem test_delete_hold_expiry :
    (after .deleteHoldExpiry (deleting withPass)).pass.pending = none ∧
      (after .deleteHoldExpiry (deleting loading)).trucks.entries.map (fun e => e.total) = [18600, 0] := by
  decide

/-- `withPass` with a dump event of cycle 7 on its way, over the Truck List of `loading`. -/
def dumping : State :=
  { withPass with trucks := loading.trucks, mail := { Mail.start with dumps := [7] } }

/-- R104: 27,350 kg and 9,054 kg. -/
theorem test_dump_event :
    (after .dumpEvent dumping).trucks.entries.map (fun e => e.total) = [36404, 0] ∧
      (after .dumpEvent dumping).mail.commits = [7] := by decide

/-- `inRun` with a commit report that names `tag`, cycle 1 being current. -/
def reported (tag : Nat) : State := { inRun with mail := { Mail.start with commits := [tag] } }

theorem test_commit_report :
    (after .commitReport (reported 1)).cycle.current.flags.weighed = true ∧
      (after .commitReport (reported 2)).cycle.current.flags.weighed = false := by decide

/-- `withPass` with a boom-below event on its way. -/
def carriedBack : State := { withPass with mail := { Mail.start with boomBelow := 1 } }

theorem test_boom_below_event : (after .boomBelowEvent carriedBack).tally.carriedBack = 1 := by decide

theorem test_phase_timer_limit : (after .phaseTimerLimit inRun).cycle.current.flags.long = true := by decide

/-- `inRun` one second before 06:00, with that shift-change point and the time set. -/
def before6 : State :=
  { inRun with
    cal := { inRun.cal with active := { MachineRecord.default with point1 := 360 } },
    clock := { inRun.clock with
      timeSet := true, calendar := { Calendar.afterReset with hour := 5, minute := 59, second := 59 } } }

/-- R152, R156: the shift changes as the minute of its point begins. -/
theorem test_calendar_second :
    (after .calendarSecond before6).tally.shift = 2 ∧ (after .calendarSecond inRun).tally.shift = 1 := by decide

theorem test_lockout_expiry :
    (after .lockoutExpiry { inRun with clock := { inRun.clock with lockout := some 0 } }).clock.lockout = none := by
  decide

/-- A part with a frame in flight. -/
def shifting (s : State) : State := { s with display := { s.display with port := .shifting } }

/-- R168, R169: a frame is composed where one is due, and none 19 ms after the last. -/
theorem test_frame_begin :
    (after .frameBegin inRun).display.image.take 8 = txt "NO TRUCK" ∧
      (after .frameBegin { inRun with
        display := { inRun.display with sinceFrame := some 19 } }).display.image = [] := by decide

theorem test_frame_latch : (after .frameLatch (shifting inRun)).display.port = .free := by decide

theorem test_message_timer_expiry :
    (after .messageTimerExpiry (placeMessage .zeroSet inRun)).display.message = none := by decide

/-- `inStandby` with its blank frame due. -/
def blankDue : State := { inStandby with display := { inStandby.display with blankDue := true } }

theorem test_blank_frame : (after .blankFrame blankDue).display.glass.map (fun g => g.length) = some 43 := by
  decide

/-- A record of a shift being programmed; one word stands for its words. -/
def job0 : ProgramJob :=
  { fromCarry := false, sector := 0, addr := 0, kind := .shiftSnapshot, seq := 1, words := [0x0001#16] }

/-- `inRun` programming it. -/
def programming (job : ProgramJob) : State :=
  { inRun with journal := { inRun.journal with
      job := some job, op := .programming, appendQueue := [{ kind := job.kind, body := [], seq := some 1 }] } }

/-- R191: the record joins the readable set and the fill advances by its length. -/
theorem test_record_written :
    (after .journalRecordWritten (programming job0)).journal.fill = 1 ∧
      (after .journalRecordWritten (programming job0)).journal.store = [(0, 1#16)] := by decide

/-- `inRun` serving a read of record 5. -/
def serving : State := { inRun with journal := { inRun.journal with serving := some 5 } }

/-- R201: with no record to find, the answer is END. -/
theorem test_read_served :
    (after .readServed serving).line.queue.map (fun t => t.data) = [[0x8000#16]] := by decide

/-- R196: the sector is FAULTED and the journal DEGRADED. -/
theorem test_program_failure :
    let j := (after .programFailure (programming job0)).journal
    j.sector 0 = .faulted ∧ j.jstate = .degraded ∧ j.programFailures = 1 := by decide

/-- R186: word 1 reads its value already and cannot fail; no program passes a word that holds a 0 where its value
has a 1. -/
theorem test_failable_words :
    Store.failable [(1, 2#16)] 0 [1#16, 2#16, 4#16] = [0, 2] ∧
      Store.failable [(1, 0#16)] 0 [1#16, 2#16, 4#16] = [0, 1] ∧
      Store.runLength [(1, 0#16)] 0 [1#16, 2#16, 4#16] = 1 := by decide

/-- `inRun` erasing sector 2, which holds one word. -/
def erasing : State :=
  { inRun with journal := { inRun.journal with
      sectors := #v[.active, .erased, .erasing, .erased], op := .erasing, eraseSector := some 2,
      eraseTime := 1500, store := [(2048, 1#16)] } }

theorem test_erase_done :
    (after .eraseDone erasing).journal.store = [] ∧
      (after .eraseDone erasing).journal.sector 2 = .erased := by decide

/-- R186: an erase that leaves every word at 0xFFFF is done. -/
theorem test_erase_failed :
    (after .eraseFailed { erasing with
      journal := { erasing.journal with store := [] } }).journal.sector 2 = .erased := by decide

/-- R186, R195: one that does not leaves the sector FAULTED. -/
theorem test_erase_failed_faults : (after .eraseFailed erasing).journal.sector 2 = .faulted := by rfl

/-! ## Witnesses: for each statement with hypotheses, states and operands that meet them together -/

theorem witness_StepIdles :
    (State.reset.pending = [] ∧ dueEvent State.reset = some .frameBegin) ∧
      ((shifting State.reset).pending = [] ∧ dueEvent (shifting State.reset) = none) ∧
      (held.pending = [] ∧ held.pins.resetLow = true) := by decide

theorem witness_ResetLineHoldsThePart :
    State.reset.pins.resetLow = false ∧ held.pins.resetLow = true ∧ isReset .join = false ∧
      ∀ b, Instr.join ≠ .keySwitchEdge b := by decide

theorem witness_ReleaseStartsThePart : held.pins.resetLow = true := by decide

/-- `inStandby` with a restart pending and the blank frame sent. -/
def restarting : State := { inStandby with modeCtl := { inStandby.modeCtl with restartPending := true } }

theorem witness_KeyOnStartsFromStandby :
    (inStandby.pins.resetLow = false ∧ inStandby.modeCtl.mode = .standby ∧ inStandby.modeCtl.keyOn = false ∧
        inStandby.display.blankDue = false) ∧
      (restarting.pins.resetLow = false ∧ restarting.modeCtl.mode = .standby ∧
        restarting.modeCtl.restartPending = true ∧ restarting.display.blankDue = false) ∧
      (blankDue.pins.resetLow = false ∧ blankDue.modeCtl.mode = .standby ∧ blankDue.modeCtl.keyOn = false ∧
        blankDue.display.blankDue = true) := by decide

/-- A part in CLOSING with its snapshot being programmed. -/
def closing : State :=
  let s := programming job0
  { s with modeCtl := { s.modeCtl with mode := .closing, keyOn := false } }

theorem witness_KeySwitchIsWatched :
    (State.reset.pins.resetLow = false ∧ State.reset.modeCtl.keyOn = !false ∧ State.reset.modeCtl.mode = .start) ∧
      ((inMode .join).modeCtl.keyOn = !false ∧ (inMode .join).modeCtl.mode = .join) ∧
      (restarting.modeCtl.mode = .standby ∧ (inMode .standby).modeCtl.keyOn = !false ∧
        (inMode .standby).modeCtl.mode = .standby) ∧
      (closing.pins.resetLow = false ∧ closing.modeCtl.keyOn = !true ∧ closing.modeCtl.mode = .closing ∧
        closing.journal.drained = false) := by decide

/-- `inService` with a journal in FAULT, sending a telegram or not. -/
def faultyService (sends : Bool) : State :=
  { inService with
    journal := { inService.journal with jstate := .fault },
    line := { inService.line with access := if sends then .send else .waitIdle } }

/-- `closing` with its drain asked for: the record being programmed is the last. -/
def closingLast : State := { closing with journal := { closing.journal with drainAsked := true } }

/-- The last record drains the journal and the part is in STANDBY (R202, R224, R225). -/
theorem test_closing_ends :
    let t := after .journalRecordWritten closingLast
    t.modeCtl.mode = .standby ∧ t.display.blankDue = true ∧ t.line.heartbeat = none ∧
      (after .journalRecordWritten closing).modeCtl.mode = .closing := by decide

theorem witness_KeyOffCloses :
    (withPass.pins.resetLow = false ∧ withPass.modeCtl.keyOn = true ∧ withPass.modeCtl.mode = .run ∧
        headHoldsPass withPass = false) ∧
      (inService.pins.resetLow = false ∧ inService.modeCtl.keyOn = true ∧ inService.modeCtl.mode = .service) ∧
      (loading.modeCtl.keyOn = true ∧ loading.trucks.entries = [truck40117, waitingTruck 40233] ∧
        truck40117.passes ≠ []) ∧
      ((after (.keySwitchLevelChange false straps12) inService).journal.drained = false ∧
        headHoldsPass inService = false ∧ (faultyService true).line.access = .send ∧
        (faultyService false).pins.resetLow = false ∧ (faultyService false).modeCtl.keyOn = true ∧
        (faultyService false).modeCtl.mode = .service ∧ (faultyService false).line.access ≠ .send ∧
        (after (.keySwitchLevelChange false straps12) (faultyService false)).journal.drained = true) ∧
      (closingLast.pins.resetLow = false ∧ closingLast.modeCtl.mode = .closing ∧ closingLast.closingOver = false ∧
        isReset .journalRecordWritten = false ∧ Instr.journalRecordWritten ≠ .resetLineLow ∧
        exec .journalRecordWritten closingLast = .next (after .journalRecordWritten closingLast)) := by
  refine ⟨by decide, by decide, by decide, by decide, by decide, by decide, by decide, by decide, by decide, rfl⟩

/-- A part in JOIN with the key on or off, PAGE and ENTER at a level, in LISTEN_ONLY or not. -/
def joining (on keys listenOnly : Bool) : State :=
  let s := inMode .join
  { s with
    modeCtl := { s.modeCtl with keyOn := on, listenOnly := listenOnly },
    display := { s.display with keys := Vector.replicate 8 { pressed := keys, lastScan := some keys, run := 3 } } }

/-- The last shift-change point before `before6` was at 00:00 of the day before; one at 05:59 lies after an open time of
05:58:59. -/
def overdueJoin (openTime : Nat) : State :=
  let s := joining true false false
  { s with
    clock := before6.clock, cal := { s.cal with active := { MachineRecord.default with point1 := 359 } },
    tally := .opened 7 openTime true }

theorem witness_JoinBeginsAndEnds :
    (State.reset.pins.resetLow = false ∧ State.reset.modeCtl.mode = .start ∧
        State.reset.display.sinceFrame = none ∧ State.reset.display.port = .free ∧
        (shifting State.reset).display.port ≠ .free) ∧
      ((joining false false false).pins.resetLow = false ∧ (joining false false false).modeCtl.mode = .join ∧
        (joining false false false).modeCtl.keyOn = false ∧ (joining false false false).line.access = .silent ∧
        (after .joinEnd (joining false false false)).journal.drained = false ∧
        (joining false false false).line.access ≠ .send) ∧
      ((joining true true false).modeCtl.keyOn = true ∧
        ((joining true true false).display.key .page).pressed = true ∧
        ((joining true true false).display.key .enter).pressed = true) ∧
      (((joining true false false).display.key .page).pressed = false ∧ muted (joining true false false) = false ∧
        muted (joining true false true) = true) ∧
      ((overdueJoin 21539).clock.timeSet = true ∧ (overdueJoin 21539).tally.openTimeSet = true ∧
        (overdueJoin 21539).tally.openTime ≤ stampNow (overdueJoin 21539) ∧
        (overdueJoin 21539).cal.active.point1 = 359 ∧ (21539 : Int) < 0 * 86400 + 359 * 60 ∧
        stampNow (overdueJoin 21539) = 21599 ∧ (0 * 86400 + 359 * 60 : Int) ≤ 21599 ∧
        (overdueJoin 21539).clock.lockout = none ∧ ¬((21540 : Int) < 0 * 86400 + 359 * 60)) := by decide

theorem witness_ModesFollowTheChapter :
    exec .join State.reset = .next (after .join State.reset) ∧ isReset .join = false := ⟨rfl, rfl⟩

theorem witness_TelegramsReadBack :
    beat0.seq < 16 ∧ beat0.kind.kind.allowsLength beat0.data.length = true ∧
      1 ≤ (1 : Nat) ∧ (30 : Nat) ≤ 30 := by decide

/-- `inRun` as station `n`, with `k` telegrams in the inbox. -/
def hearing (n k : Nat) : State :=
  { inRun with
    modeCtl := { inRun.modeCtl with station := n },
    line := { inRun.line with
      inbox := List.replicate k { sender := 3, kind := .drive, seq := 0, data := [0, 0] } } }

/-- The DRIVE telegram written out above, as read. -/
def driveRead : RxTelegram := { sender := 2, kind := .drive, seq := 5, data := [0, 2] }

set_option maxRecDepth 20000 in
theorem witness_TelegramsAreTaken :
    ((hearing 12 3).pins.resetLow = false ∧ (hearing 12 3).line.listening = true ∧
        (hearing 12 3).line.access ≠ .send ∧ (hearing 12 3).closingOver = false) ∧
      checkTelegram driveReverse = .good driveRead ∧
      (driveRead.sender ≠ (hearing 12 3).modeCtl.station ∧ (hearing 12 3).line.inbox.length < 4) ∧
      (driveRead.sender ≠ (hearing 12 4).modeCtl.station ∧ 4 ≤ (hearing 12 4).line.inbox.length) ∧
      checkTelegram (driveReverse.set 7 0x003#10) = .error .drive ∧ checkTelegram [0x001#10] = .unknown ∧
      (driveRead.sender = (hearing 2 0).modeCtl.station ∧ (hearing 2 0).line.clash = false) := by decide

/-- `deferring` with an empty queue. -/
def deferringIdle : State := { inRun with line := { inRun.line with access := .defer } }

/-- `sending 1` in CLOSING over a drained journal. -/
def closingSending : State :=
  let s := sending 1
  { s with
    modeCtl := { s.modeCtl with mode := .closing }, journal := { s.journal with drainAsked := true } }

theorem witness_TransmissionsBeginAndEnd :
    ((inRun.pins.resetLow = false ∧ inRun.line.access = .waitIdle) ∧
      (deferringIdle.line.access = .defer ∧ deferringIdle.line.queue = []) ∧
      ((deferring 74).line.queue = [beat0] ∧
        min 126 ((deferring 74).line.slotCount + 1) < beat0.kind.cls * 32 + (deferring 74).modeCtl.station) ∧
      ((deferring 75).line.queue = [beat0] ∧
        beat0.kind.cls * 32 + (deferring 75).modeCtl.station ≤ min 126 ((deferring 75).line.slotCount + 1))) ∧
    (((sending 1).pins.resetLow = false ∧ (sending 1).line.access = .send ∧
        (sending 1).line.queue = [{ beat0 with sending := true }] ∧
        ∀ u ∈ ([] : List TxTelegram), u.sending = false) ∧
      ((sending 1).line.collisions < 2 ∧ ({ beat0 with attempts := 2 } : TxTelegram).attempts < 3 ∧
        3 ≤ ({ beat0 with attempts := 3 } : TxTelegram).attempts) ∧
      (2 ≤ (sending 2).line.collisions ∧ beat0.attempts < 3 ∧ (sending 2).line.clash = false) ∧
      (closingSending.line.access = .send ∧ closingSending.line.queue = [{ beat0 with sending := true }] ∧
        closingSending.modeCtl.mode = .closing ∧ closingSending.journal.drainAsked = true ∧
        closingSending.journal.drained = true)) := by decide

/-- `inRun` with a HEARTBEAT waiting. -/
def beatWaiting : State := { inRun with line := { inRun.line with queue := [beat0] } }

theorem witness_HeartbeatsAreComposed :
    (beatWaiting.pins.resetLow = false ∧ beatWaiting.line.heartbeat.isSome = true ∧
        beatWaiting.line.queue = [] ++ beat0 :: [] ∧ beat0.kind = .heartbeat ∧ beat0.sending = false) ∧
      (inRun.pins.resetLow = false ∧ inRun.line.heartbeat.isSome = true ∧ inRun.line.queue = [] ∧
        (∀ y ∈ (sending 1).line.queue, ¬(y.kind = .heartbeat ∧ y.sending = false)) ∧ muted inRun = false ∧
        inRun.line.queue.length < 8) ∧
      (inRun.modeCtl.mode = .run ∧ inService.modeCtl.mode = .service ∧ closing.modeCtl.mode = .closing) := by decide

/-- A Line Interface whose queue holds eight telegrams of one kind. -/
def fullLine (k : TxKind) : LineInterface :=
  { LineInterface.start with queue := List.replicate 8 { beat0 with kind := k } }

theorem witness_QueuePolicy :
    (LineInterface.start.queue.length < 8 ∧ (fullLine .cycle).queue.length ≤ 8 ∧
        (fullLine .cycle).queue.Pairwise (fun x y => x.kind.cls ≤ y.kind.cls)) ∧
      ((fullLine .cycle).queue.length = 8 ∧ (∀ x ∈ (fullLine .cycle).queue, x.evictable = false) ∧
        TxKind.cls .heartbeat = 2) ∧
      ((fullLine .heartbeat).queue.length = 8 ∧ TxKind.cls .passResult = 1 ∧
        (fullLine .heartbeat).queue = [] ++ beat0 :: List.replicate 7 beat0 ∧ beat0.kind.cls = 2 ∧
        beat0.sending = false) := by decide

theorem witness_MutedStaysQuiet :
    State.reset.mutedQuiet = true ∧ muted State.reset = true ∧
      step { State.reset with pending := [.join] } = .next (after .join State.reset) := ⟨by decide, by decide, rfl⟩

theorem witness_OnlyStartsChange :
    (exec .idleGap { inRun with line := { inRun.line with clash := true } } =
        .next (after .idleGap { inRun with line := { inRun.line with clash := true } }) ∧
      beginsStart .idleGap { inRun with line := { inRun.line with clash := true } } = false ∧
      ({ inRun with line := { inRun.line with clash := true } } : State).line.clash = true) ∧
    (exec .frameBegin State.reset = .next (after .frameBegin State.reset) ∧
      beginsStart .frameBegin State.reset = false ∧ beginsStart (.restart straps12) blankDue = false ∧
      beginsStart (.restart straps12) restarting = true) :=
  ⟨⟨rfl, by decide, rfl⟩, rfl, by decide, by decide, by decide⟩

/-- A BOOM slot of station 7 that has fallen silent, and a HEARTBEAT of that station. -/
def silentBoom : State :=
  withMail { sender := 7, kind := .heartbeat, seq := 1, data := List.replicate 7 0 }
    (withSlot .boom (slotOf 7 100).fallSilent)

theorem witness_DispatchRestartsLinkAges :
    silentBoom.pins.resetLow = false ∧ silentBoom.closingOver = false ∧
      silentBoom.line.inbox = [{ sender := 7, kind := .heartbeat, seq := 1, data := List.replicate 7 0 }] ∧
      Kind.channel .heartbeat = none ∧ Kind.heartbeat ≠ .settings ∧ Kind.heartbeat ≠ .journalRead ∧
      (silentBoom.prod.slot .boom .primary).station = some 7 ∧
      (silentBoom.prod.slot .rod .primary).station ≠ some 7 := by decide

/-- A BOOM telegram that repeats the slot's last sequence. -/
def repeated : State :=
  withMail { sender := 7, kind := .boom, seq := 5, data := [0, 0, 100] } (withSlot .boom (slotOf 7 100))

/-- R59, R63, R64: a second station fills slot 2, a pressure above 40,000 kPa is kept as 40,000 with OVER, and a
direction that is none of the three is stored with FAULT. -/
theorem test_slots_take_telegrams :
    let p := repeated.prod
    let x := (p.take .boom 9 3 [0, 0, 100]).1.slot .boom .secondary
    let y := (p.take .head 9 3 [0, 0, 40001]).1.slot .head .primary
    (x.station = some 9 ∧ x.lastValue = some 100 ∧ x.state = .active) ∧
      (y.lastValue = some 40000 ∧ y.lastStatus = some .over) ∧
      ((p.take .drive 9 3 [0, 3]).1.slot .drive .primary).state = .faulty := by decide

theorem witness_SlotsTakeTelegrams :
    (((0 : Nat) < 16 ∧ (15 : Nat) < 16) ∧ Slot.cleared.lastSeq = none ∧
      ((slotOf 7 100).fallSilent.lastSeq.isSome = true ∧ (slotOf 7 100).fallSilent.resync = true) ∧
      ((slotOf 7 100).lastSeq = some 5 ∧ (slotOf 7 100).resync = false ∧ (4 : Nat) ≠ 5)) ∧
    (repeated.pins.resetLow = false ∧ repeated.closingOver = false ∧
      repeated.line.inbox = [{ sender := 7, kind := .boom, seq := 5, data := [0, 0, 100] }] ∧
      Kind.channel .boom = some .boom ∧ (repeated.prod.slot .boom .primary).station = some 7 ∧
      (repeated.prod.slot .boom .primary).state = .active ∧
      (repeated.prod.slot .boom .primary).resync = false ∧
      (repeated.prod.slot .boom .primary).lastSeq = some 5) ∧
    (let p := repeated.prod
      let both := p.setSlot .boom .secondary (slotOf 8 100)
      (p.slot .boom .primary).station = some 7 ∧
        ((both.slot .boom .primary).station ≠ some 8 ∧ (both.slot .boom .secondary).station = some 8) ∧
        ((p.slot .rod .primary).station ≠ some 7 ∧ (p.slot .rod .secondary).station ≠ some 7 ∧
          (p.slot .rod .primary).state = .empty) ∧
        ((p.slot .boom .primary).station ≠ some 9 ∧ (p.slot .boom .primary).state ≠ .empty ∧
          (p.slot .boom .secondary).station ≠ some 9 ∧ (p.slot .boom .secondary).state = .empty) ∧
        ((both.slot .boom .secondary).station ≠ some 9 ∧ (both.slot .boom .secondary).state ≠ .empty)) := by decide

theorem witness_AgesReachTheirLimits :
    let s := withSlot .boom { slotOf 7 100 with linkAge := some 1000 }
    let f := withSlot .boom { slotOf 7 100 with
      state := .faulty, lastStatus := some .fault, linkAge := some 1000 }
    let y := withSlot .boom { slotOf 7 100 with linkAge := some 999 }
    s.pins.resetLow = false ∧ tableRuns s.modeCtl.mode = true ∧ (s.prod.slot .boom .primary).state = .active ∧
      (s.prod.slot .boom .primary).linkAge = some 1000 ∧ (f.prod.slot .boom .primary).state = .faulty ∧
      (f.prod.slot .boom .primary).linkAge = some 1000 ∧ (y.prod.slot .boom .primary).linkAge = some 999 ∧
      (s.prod.slot .boom .primary).isFresh .boom = true ∧
      (Channel.boom, SlotId.secondary) ≠ (Channel.boom, SlotId.primary) := by decide

theorem witness_LiftForce :
    ((0 : Int) ≤ 18500 * 62800 - 1200 * 33000 ∧ ((0 : Int) * 40000 - 40000 * 65000) < 0) ∧
      ((0 : Int) ≤ 40000 ∧ (0 : Int) ≤ 65000) := by decide

theorem witness_CurvePoint :
    let r := MachineRecord.default
    (r.thetaHi - r.thetaLo) % 15 = 0 ∧ 1500 ≤ r.thetaHi - r.thetaLo ∧ r.thetaLo ≤ 0 ∧ 0 < r.thetaHi ∧
      r.thetaLo ≤ 2999 ∧ 2999 = r.thetaHi - 1 := by decide

theorem witness_LiftAverage :
    let a := { Accumulator.cleared with sum := 126756, count := 14 }
    let b := { Accumulator.cleared with sum := -7, count := 2 }
    (0 < a.count ∧ (0 : Int) ≤ a.sum ∧ -2000 * (a.count : Int) ≤ a.sum ∧ a.sum ≤ 25000 * (a.count : Int)) ∧
      (0 < b.count ∧ b.sum < 0) := by decide

/-- `inRun` with slot 1 of some channels filled by station 3, and a HEAD telegram of that station in the inbox. -/
def fed (channels : List Channel) (seq : Nat) (v : Word) : State :=
  withMail { sender := 3, kind := .head, seq := seq, data := [0, 0, v] }
    { inRun with prod := channels.foldl (fun p ch => p.setSlot ch .primary (slotOf 3 100)) inRun.prod }

/-- The table after that telegram, and the slot that accepted it. -/
def fedTable (channels : List Channel) (seq : Nat) (v : Word) : ProducerTable × Option SlotId :=
  ((fed channels seq v).prod.hear 3).take .head 3 seq [0, 0, v]

/-- The channels a set needs. -/
def setChannels : List Channel := [.head, .rod, .boom, .bucket]

/-- A table whose two BOOM slots hold 100 and another value; the channel's tolerance is 100. -/
def disagreeing (v : Int) : ProducerTable :=
  (ProducerTable.start.setSlot .boom .primary (slotOf 3 100)).setSlot .boom .secondary (slotOf 4 v)

theorem witness_SetsAreDelivered :
    ((fed setChannels 6 40000).pins.resetLow = false ∧ (fed setChannels 6 40000).modeCtl.mode = .run ∧
        (fed setChannels 6 40000).closingOver = false ∧
        (fed setChannels 6 40000).line.inbox = [{ sender := 3, kind := .head, seq := 6, data := [0, 0, 40000] }]) ∧
      (fedTable setChannels 5 100).2 = none ∧
      ((fedTable [.head] 6 100).2.isSome = true ∧
        (fedTable [.head] 6 100).1.source .head = (fedTable [.head] 6 100).2 ∧
        Channel.boom ∈ (fedTable [.head] 6 100).1.missing ∧ (fed [.head] 6 100).weigher.state ≠ .inWindow ∧
        (inWindow 0 0).weigher.state = .inWindow) ∧
      ((fedTable setChannels 6 40001).1.missing = [] ∧
        (fedTable setChannels 6 40001).1.sourceOver .head = true) ∧
      ((fedTable setChannels 6 40000).2.isSome = true ∧
        (fedTable setChannels 6 40000).1.source .head = (fedTable setChannels 6 40000).2 ∧
        (fedTable setChannels 6 40000).1.missing = [] ∧
        (disagreeing 201).disagrees .boom = true ∧ (disagreeing 200).disagrees .boom = false ∧
        ((fedTable setChannels 6 40000).1.sourceOver .head ||
          (fedTable setChannels 6 40000).1.sourceOver .rod) = false) ∧
      (capturing.modeCtl.mode = .service ∧ capturing.cal.capture = .emptyArmed ∧
        inService.cal.capture ≠ .emptyArmed ∧ inService.cal.capture ≠ .loadedArmed) := by decide

/-- `inRun` with the record and curves of 1.2, the Weigher in a state with an accumulator. -/
def lifting (st : WeigherState) (sum : Int) (count : Nat) (armed : Bool) : State :=
  { inRun with
    cal := { inRun.cal with active := { record12 with curves := some curves12 } },
    weigher := { Weigher.start with
      state := st, zeroArmed := armed,
      acc := { Accumulator.cleared with
        sum := sum, count := count, min := some 9000, max := some 9100, thMax := some 1250,
        stallRef := some 1250, inputTimer := some 0, stallTimer := some 0 } } }

/-- Each case at a boundary of its range: the window is 0..3,000 of the boom, the bucket is racked from 2,500 and
held to 2,300, and the threshold of an empty lift is 300 kg. -/
theorem witness_LiftsAreWeighed :
    let r := (lifting .below 0 0 false).cal.active
    let a := (lifting .inWindow 72000 8 false).weigher.acc
    (r.curves = some curves12 ∧ r.thetaLo = 0 ∧ r.thetaHi = 3000 ∧ r.betaMin = 2500 ∧ r.emptyThreshold = 300) ∧
      ((-1 : Int) < r.thetaLo ∧ r.thetaLo ≤ 0 ∧ (2999 : Int) < r.thetaHi ∧ r.thetaHi ≤ 3000 ∧
        (2499 : Int) < r.betaMin ∧ r.betaMin ≤ 2500) ∧
      ((1199 : Int) < a.thMax.getD 1199 - 50 ∧ ¬((1200 : Int) < a.thMax.getD 1200 - 50 ∨ (1200 : Int) < r.thetaLo) ∧
        (2299 : Int) < r.betaMin - 200 ∧ ¬((2300 : Int) < r.betaMin - 200)) ∧
      ((lifting .inWindow 0 7 false).weigher.acc.count < 8 ∧ 8 ≤ a.count ∧
        a.count < 65535 ∧ ¬((lifting .inWindow 0 65535 false).weigher.acc.count < 65535) ∧
        a.min = some 9000 ∧ a.max = some 9100 ∧ a.thMax = some 1250 ∧ a.stallRef = some 1250) ∧
      ((lifting .inWindow 8000 8 true).weigher.acc.average = 1000 ∧
        (lifting .inWindow (-8000) 8 true).weigher.acc.average = -1000 ∧
        1000 < (lifting .inWindow 8008 8 true).weigher.acc.average ∧
        (lifting .inWindow (-8008) 8 true).weigher.acc.average < -1000) ∧
      (clamp (-2000) 25000 ((lifting .inWindow 2392 8 false).weigher.acc.average - 0) < r.emptyThreshold ∧
        r.emptyThreshold ≤ clamp (-2000) 25000 ((lifting .inWindow 2400 8 false).weigher.acc.average - 0)) := by
  decide

/-- `inService` with the record and window of `lifting`, a capture in a phase with every bin alike, the greatest angle
1,250, and an empty curve of zeros. -/
def captured (c : CaptureState) (p : CapturePhase) (sum : Int) (count : Nat) : State :=
  { inService with cal := { inService.cal with
      working := some record12, capture := c, phase := p, bins := Vector.replicate 16 { sum := sum, count := count },
      thMax := some 1250, candEmpty := some (Vector.replicate 16 0) } }

/-- A state whose journal is in FAULT. -/
def faulted (s : State) : State := { s with journal := { s.journal with jstate := .fault } }

/-- Each case at a boundary of its range: the window is 0..3,000, the bucket is racked from 2,500 and held to 2,300. -/
theorem witness_SetsAreCaptured :
    let s := captured .emptyArmed .inCapture 40000 2
    let r := s.cal.working.getD s.cal.active
    let means := fun (sum : Int) => (roundDiv sum 2 : Int)
    (r.thetaLo = 0 ∧ r.thetaHi = 3000 ∧ r.betaMin = 2500) ∧
      ((captured .emptyArmed .awaitBelow 0 0).cal.phase = .awaitBelow ∧ (-1 : Int) < r.thetaLo ∧ r.thetaLo ≤ 0) ∧
      ((captured .loadedArmed .awaitEntry 0 0).cal.phase = .awaitEntry ∧ (2499 : Int) < r.betaMin ∧
        r.betaMin ≤ 2500 ∧ r.thetaHi ≤ 3000 ∧ (2999 : Int) < r.thetaHi ∧ set12.phi = some 800 ∧
        ({ set12 with phi := none } : SampleSet).phi = none) ∧
      (s.cal.phase = .inCapture ∧ s.cal.thMax = some 1250 ∧ (1199 : Int) < s.cal.thMax.getD 1199 - 50 ∧
        ¬((1200 : Int) < s.cal.thMax.getD 1200 - 50 ∨ (1200 : Int) < r.thetaLo) ∧
        (2299 : Int) < r.betaMin - 200 ∧ ¬((2300 : Int) < r.betaMin - 200)) ∧
      (((captured .emptyArmed .inCapture 0 1).cal.bins.getD 0 { sum := 0, count := 0 }).count < 2 ∧
        (∀ k, k < 16 → 2 ≤ (s.cal.bins.getD k { sum := 0, count := 0 }).count) ∧
        s.cal.capture = .emptyArmed ∧ (captured .loadedArmed .inCapture 40000 2).cal.capture = .loadedArmed ∧
        (captured .loadedArmed .inCapture 40000 2).cal.candEmpty = some (Vector.replicate 16 0) ∧
        means 39998 - 0 < 20000 ∧ 20000 ≤ means 40000 - 0 ∧ s.cal.save = none ∧
        ({ s with cal := { s.cal with save := some .settings } } : State).cal.save.isSome = true ∧
        s.journal.jstate ≠ .fault ∧ s.journal.appendQueue.length < 4 ∧
        (faulted s).journal.jstate = .fault) := by decide

/-- `inRun` with slot 1 of a channel filled by station 7, sequence 5, and a telegram of that station in the inbox. -/
def passing (k : Kind) (ch : Channel) (seq : Nat) (data : List Word) : State :=
  withMail { sender := 7, kind := k, seq := seq, data := data } (withSlot ch (slotOf 7 1))

theorem witness_ValuesArePassedOn :
    let data : List Word := [0, 0, 6001]
    let took := fun (ch : Channel) (seq : Nat) =>
      ((passing .boom ch seq data).prod.hear 7).take ch 7 seq data
    ((passing .boom .boom 6 data).pins.resetLow = false ∧ (passing .boom .boom 6 data).closingOver = false ∧
        Kind.channel .boom = some .boom ∧ Kind.channel .bucket = some .bucket ∧
        Kind.channel .drive = some .drive ∧ Kind.channel .rod = some .rod ∧ Kind.channel .pitch = some .pitch) ∧
      (took .boom 5).2 = none ∧
      ((took .boom 6).2.isSome = true ∧ (took .boom 6).1.source .boom = (took .boom 6).2 ∧
        (took .boom 6).1.sourceValue .boom = some 6000) ∧
      ((took .bucket 6).2.isSome = true ∧ (took .bucket 6).1.source .bucket = (took .bucket 6).2 ∧
        (took .bucket 6).1.sourceValue .bucket = some 6001) ∧
      (((passing .drive .drive 6 [0, 2]).prod.hear 7).take .drive 7 6 [0, 2]).1.sourceValue .drive = some 2 ∧
      (passing .boom .boom 6 data).accepts .boom { sender := 7, kind := .boom, seq := 6, data := data } = true := by
  decide

theorem witness_TimersReachTheirLimits :
    (((inWindow 250 3000).pins.resetLow = false ∧ (inWindow 250 3000).weigher.state = .inWindow ∧
        (inWindow 250 3000).weigher.acc.inputTimer = some 250 ∧
        (inWindow 250 3000).weigher.acc.stallTimer = some 3000) ∧
      ((inWindow 249 2999).weigher.acc.inputTimer = some 249 ∧
        (inWindow 249 2999).weigher.acc.stallTimer = some 2999) ∧
      (capturing.pins.resetLow = false ∧ capturing.cal.capture = .emptyArmed ∧ capturing.cal.phase = .inCapture ∧
        capturing.cal.inputTimer = some 250) ∧
      ({ capturing with cal := { capturing.cal with capture := .loadedArmed, inputTimer := some 249 } } :
        State).cal.inputTimer = some 249) ∧
    (inRun.pins.resetLow = false ∧ inRun.modeCtl.mode ≠ .standby ∧ inRun.cycle.hold = false ∧
      (placeMessage .zeroSet inRun).display.messageTimer.isSome = true) := by decide

/-- `inRun` with one resolution report on its way, the Weigher in a state. -/
def resolved (x : WeigherState) : State :=
  { inRun with
    weigher := { Weigher.start with state := x }, mail := { Mail.start with resolutions := 1 } }

theorem witness_ResolutionEndsHeld :
    ((resolved .held).pins.resetLow = false ∧ (resolved .held).modeCtl.mode ≠ .standby ∧
        (resolved .held).mail.resolutions ≠ 0 ∧ (resolved .held).weigher.state = .held) ∧
      ((resolved .above).mail.resolutions ≠ 0 ∧ (resolved .above).weigher.state ≠ .held) ∧
      (carriedBack.pins.resetLow = false ∧ carriedBack.modeCtl.mode ≠ .standby ∧
        carriedBack.mail.boomBelow ≠ 0 ∧ carriedBack.pass.pending.isSome = true) := by decide

theorem witness_OnePassIsKept :
    (resolved .held).passLaw = true ∧ withPass.passLaw = true ∧
      step { resolved .held with pending := [.resolutionReport] } =
        .next (after .resolutionReport (resolved .held)) := ⟨by decide, by decide, rfl⟩

theorem witness_RecordsReadBack :
    MachineRecord.default.storable = true ∧
      { record12 with curves := some curves12 }.storable = true ∧
      (ShiftFigures.opened 65535 4294967295 true).inWidth = true := by decide

theorem witness_WritesStayInRange :
    MachineRecord.default.passes = true ∧ { record12 with curves := some curves12 }.passes = true := by decide

/-- A SETTINGS save whose MACHINE record is being programmed. -/
def saving : State :=
  let s := programming { job0 with kind := .machine }
  { s with
    modeCtl := { s.modeCtl with mode := .service },
    cal := { s.cal with save := some .settings, working := some record12 } }

/-- `inService` with one SETTINGS telegram for station `n` in the inbox, in a capture state. -/
def asked (c : CaptureState) (data : List Word) : State :=
  withMail { sender := 9, kind := .settings, seq := 1, data := data }
    { inService with cal := { inService.cal with capture := c } }

theorem witness_SettingsAreTaken :
    ((asked .idle [0x6000, 4, 0, 3010]).pins.resetLow = false ∧
        (asked .idle [0x6000, 4, 0, 3010]).closingOver = false ∧
        (asked .idle [0x6000, 4, 0, 3010]).modeCtl.mode = .service ∧
        (asked .idle [0x6000, 4, 0, 3010]).line.inbox =
          [{ sender := 9, kind := .settings, seq := 1, data := [0x6000, 4, 0, 3010] }] ∧
        (asked .idle [0x6000, 4, 0, 3010]).modeCtl.station = 12 ∧
        (asked .idle [0x6000, 4, 0, 3010]).modeCtl.listenOnly = false ∧
        (asked .idle [0x6000, 4, 0, 3010]).cal.save = none) ∧
      (settingsFields [0x6000, 4, 0, 3010] = (12, .write 4 3010) ∧
        settingsFields [0x6000, 18, 0, 0] = (12, .write 18 0) ∧
        settingsFields [0x6000, 19, 0, 0] = (12, .write 19 0) ∧
        settingsFields [0x6000, 0, 0, 0] = (12, .write 0 0) ∧ settingsFields [0x6001, 0, 0, 0] = (12, .save) ∧
        settingsFields [0x6800, 4, 0, 0] = (13, .write 4 0)) ∧
      (CaptureState.emptyArmed.restartsOnGeometry = true ∧ CaptureState.idle.restartsOnGeometry = false ∧
        CaptureState.idle ≠ .check ∧ saving.cal.save.isSome = true) ∧
      ((asked .idle []).journal.jstate ≠ .fault ∧ (asked .idle []).journal.appendQueue.length < 4) ∧
      (({ asked .idle [] with journal := { inService.journal with jstate := .fault } } : State).journal.jstate =
        .fault ∧ inRun.modeCtl.mode ≠ .service) := by decide

/-- `dumping` over an empty Truck List. -/
def dumpingAlone : State := { dumping with trucks := TruckList.start }

/-- `dumping` over a head with fourteen passes. -/
def dumpingLast : State :=
  { dumping with trucks := { TruckList.start with entries := [{ waitingTruck 40117 with
      passes := (List.range 14).map (fun n => { number := n + 1, weight := 1000, flags := .none }), total := 14000 }] } }

theorem witness_DumpCommits :
    (dumping.pins.resetLow = false ∧ dumping.modeCtl.mode ≠ .standby ∧ dumping.mail.dumps = [7] ∧
        dumping.pass.pending = some pass9054 ∧ (headForCommit dumping).1.passes.length < 14) ∧
      (dumpingAlone.mail.dumps = [7] ∧ (headForCommit dumpingAlone).1.passes.length < 14) ∧
      (dumpingLast.mail.dumps = [7] ∧ dumpingLast.pass.pending = some pass9054 ∧
        (headForCommit dumpingLast).1.passes.length = 14) := by decide

/-- `inRun`, no pass pending, with a dump and a boom-below event on their way. -/
def eventsInClear : State := { inRun with mail := { Mail.start with dumps := [7], boomBelow := 1 } }

theorem witness_EventsInClearDoNothing :
    eventsInClear.pins.resetLow = false ∧ eventsInClear.modeCtl.mode ≠ .standby ∧
      eventsInClear.pass.pending = none ∧ eventsInClear.mail.dumps = [7] ∧ eventsInClear.mail.boomBelow ≠ 0 := by
  decide

theorem witness_DeleteHoldDeletes :
    ((deleting withPass).pins.resetLow = false ∧ (deleting withPass).display.deleteHold = some 2000 ∧
        (deleting withPass).modeCtl.mode = .run ∧ (deleting withPass).pass.pending.isSome = true) ∧
      ((deleting inRun).pass.pending = none ∧ headHoldsPass (deleting inRun) = false) ∧
      ((deleting loading).pass.pending = none ∧
        (deleting loading).trucks.entries = [truck40117, waitingTruck 40233] ∧
        truck40117.passes.getLast? = some
          { number := 3, weight := 8750, flags := { QualityFlags.none with spread := true } }) := by decide

/-- A list of `n` trucks, none of them 40500, an ANNOUNCE of 40500 from station 20, which holds slot 1 of the
TRUCK channel. -/
def announcing (n : Nat) : State :=
  let s := withMail { sender := 20, kind := .announce, seq := 6, data := [0, 40500, 0, 36000] }
    (withSlot .truck (slotOf 20 0))
  { s with trucks := { TruckList.start with
      entries := (List.range n).map (fun k => waitingTruck (BitVec.ofNat 32 (40000 + k))) } }

theorem witness_AnnouncementsAreListed :
    let r : RxTelegram := { sender := 20, kind := .announce, seq := 6, data := [0, 40500, 0, 36000] }
    ((announcing 3).pins.resetLow = false ∧ (announcing 3).modeCtl.mode = .run ∧
        (announcing 3).line.inbox = [r] ∧ (announcing 3).accepts .truck r = true ∧
        (∀ e ∈ (announcing 3).trucks.entries, e.identity ≠ some (announceFields r.data).1) ∧
        (announcing 3).trucks.entries.length < 4) ∧
      ((∀ e ∈ (announcing 4).trucks.entries, e.identity ≠ some (announceFields r.data).1) ∧
        4 ≤ (announcing 4).trucks.entries.length) ∧
      (announceFields [0, 40001, 0, 45000] = (40001, 45000) ∧
        (announcing 3).trucks.entries = [waitingTruck 40000] ++ waitingTruck 40001 :: [waitingTruck 40002] ∧
        (∀ f ∈ [waitingTruck 40000], f.identity ≠ some 40001) ∧ (waitingTruck 40001).identity = some 40001 ∧
        clamp 1000 200000 45000 = (waitingTruck 40001).target ∧
        clamp 1000 200000 36000 ≠ (waitingTruck 40001).target) := by decide

/-- A DEPART of truck 40117 from station 20, which holds slot 1 of the TRUCK channel, over a list. -/
def departing (entries : List TruckEntry) : State :=
  let s := withMail { sender := 20, kind := .depart, seq := 6, data := [0, 40117] }
    (withSlot .truck (slotOf 20 0))
  { s with trucks := { TruckList.start with entries := entries } }

theorem witness_DeparturesAreTaken :
    ((departing []).pins.resetLow = false ∧ (departing []).modeCtl.mode = .run ∧
        (departing []).line.inbox = [{ sender := 20, kind := .depart, seq := 6, data := [0, 40117] }] ∧
        (departing []).accepts .truck { sender := 20, kind := .depart, seq := 6, data := [0, 40117] } = true ∧
        departFields [0, 40117] = 40117) ∧
      (∀ e ∈ (departing [waitingTruck 40233]).trucks.entries, e.identity ≠ some 40117) ∧
      ((departing [waitingTruck 40233, truck40117]).trucks.entries = [waitingTruck 40233] ++ truck40117 :: [] ∧
        (∀ f ∈ [waitingTruck 40233], f.identity ≠ some 40117) ∧ truck40117.identity = some 40117) ∧
      (waitingTruck 40117).passes = [] ∧
      ((departing [truck40117]).trucks.entries = truck40117 :: [] ∧ truck40117.passes ≠ []) := by decide

theorem witness_TruckLawsAreKept :
    dumping.trucks.lawful = true ∧
      step { dumping with pending := [.dumpEvent] } = .next (after .dumpEvent dumping) := ⟨by decide, rfl⟩

/-- `inRun` with the Cycle Tracker in a phase, the boom last seen at 1,000, low seen. -/
def tracking (p : Phase) : State :=
  { inRun with cycle := { inRun.cycle with phase := p, lastBoom := some 1000, lowSeen := true } }

theorem witness_CyclesFollowTheMachine :
    let s := tracking .loaded
    (s.cycle.hold = false ∧ CycleTracker.start.hold = true ∧ s.cal.active.thetaLo = 0 ∧
        s.cal.active.betaDump = -1500) ∧
      (s.cal.active.thetaLo ≤ 0 ∧ (-1 : Int) < s.cal.active.thetaLo ∧ (-1500 : Int) ≤ s.cal.active.betaDump ∧
        s.cal.active.betaDump + 200 < -1299 ∧ (-1300 : Int) ≤ s.cal.active.betaDump + 200 ∧
        s.cal.active.betaDump < -1499) ∧
      (s.cycle.lastBoom.any (fun b => s.cal.active.thetaLo ≤ b) = true ∧
        s.cycle.lastBucket.any (fun b => b ≤ s.cal.active.betaDump) = false ∧
        ({ s with cycle := { s.cycle with lastBucket := some (-1500) } } : State).cycle.lastBucket.any
          (fun b => b ≤ s.cal.active.betaDump) = true) ∧
      ((tracking .ret).cycle.lowSeen = true ∧ CycleTracker.start.lowSeen = false ∧
        CycleTracker.start.latch ≠ .met ∧ s.prod.available .drive = false ∧
        (withSlot .drive (slotOf 7 0)).prod.available .drive = true) ∧
      ((tracking .ret).cycle.lastBoom.any (fun b => b < s.cal.active.thetaLo) = false ∧
        (some (-1 : Int)).any (fun b => b < s.cal.active.thetaLo) = true) := by decide

/-- `reported` with a last cycle 1, cycle 2 being current. -/
def reportedLate (tag : Nat) : State :=
  { reported tag with cycle := { inRun.cycle with
      current := CycleRecord.fresh 2, last := some (CycleRecord.fresh 1), lastShift := some 1 } }

theorem witness_CommitReportsMark :
    ((reported 1).pins.resetLow = false ∧ (reported 1).modeCtl.mode ≠ .standby ∧ (reported 1).mail.commits = [1] ∧
        1 = (reported 1).cycle.current.number) ∧
      ((reportedLate 1).mail.commits = [1] ∧ 1 ≠ (reportedLate 1).cycle.current.number ∧
        (reportedLate 1).cycle.last = some (CycleRecord.fresh 1) ∧ 1 = (CycleRecord.fresh 1).number) ∧
      ((reportedLate 9).mail.commits = [9] ∧ 9 ≠ (reportedLate 9).cycle.current.number ∧
        9 ≠ (CycleRecord.fresh 1).number) := by decide

theorem witness_CalendarCounts :
    inRun.pins.resetLow = false ∧ inRun.clock.calendar.isValid = true ∧
      ({ year := 2099, month := 12, day := 31, hour := 23, minute := 59, second := 59 } : Calendar).isValid =
        true ∧
      (before6.pins.resetLow = false ∧ before6.clock.calendar.isValid = true ∧ before6.modeCtl.mode = .run ∧
        (after .calendarSecond before6).clock.timeSet = true ∧ before6.clock.lockout = none ∧
        before6.cal.active.point1 = 360 ∧
        ((after .calendarSecond before6).clock.calendar.toSeconds % 86400 : Nat) = 360 * 60) := by decide

/-- `before6` with a TIME telegram of station 20, which holds slot 1 of the TIME channel. -/
def timed (timeSet : Bool) (data : List Word) : State :=
  let s := withMail { sender := 20, kind := .time, seq := 6, data := data }
    { before6 with prod := before6.prod.setSlot .time .primary (slotOf 20 0) }
  { s with clock := { s.clock with timeSet := timeSet } }

/-- 06:00:02 is the first reading that steps; 24:00:00 is no reading. -/
theorem witness_TimesAreTaken :
    ((timed true [2000, 0x0101, 0x0600, 2]).pins.resetLow = false ∧
        (timed true [2000, 0x0101, 0x0600, 2]).modeCtl.mode = .run ∧
        (timed true [2000, 0x0101, 0x0600, 2]).accepts .time
          { sender := 20, kind := .time, seq := 6, data := [2000, 0x0101, 0x0600, 2] } = true) ∧
      (timeFields [2000, 0x0101, 0x1800, 0]).isValid = false ∧
      ((timeFields [2000, 0x0101, 0x0600, 2]).isValid = true ∧
        (timeFields [2000, 0x0101, 0x0600, 2]).toSeconds = 21602 ∧
        before6.clock.calendar.toSeconds = 21599 ∧ (2 : Int) < 21602 - 21599 ∧ before6.clock.timeSet = true ∧
        before6.clock.lockout = none ∧ before6.cal.active.point1 = 360 ∧
        (21599 : Int) < 0 * 86400 + 360 * 60 ∧ (0 * 86400 + 360 * 60 : Int) ≤ 21599 + 3) ∧
      ((timed false [2000, 0x0101, 0x0600, 2]).clock.timeSet = false ∧
        (timed false [2000, 0x0101, 0x0600, 2]).tally.openTimeSet = false ∧
        (timed false [2000, 0x0101, 0x0600, 2]).tally.openTime = 0 ∧ (0 : Int) ≤ 0 + 3 ∧
        (0 + 3 : Int) < 3155760000) ∧
      headHoldsPass loading = true := by decide

theorem witness_ShiftChangesAreLockedOut :
    exec .calendarSecond before6 = .next (after .calendarSecond before6) ∧
      beginsStart .calendarSecond before6 = false ∧
      (after .calendarSecond before6).tally.shift ≠ before6.tally.shift := ⟨rfl, by decide, by decide⟩

theorem witness_UnweighedWithinCycles :
    exec .calendarSecond before6 = .next (after .calendarSecond before6) ∧
      beginsStart .calendarSecond before6 = false ∧
      before6.tally.unweighed ≤ before6.tally.cycles ∧ before6.tally.cycles ≤ 65535 :=
  ⟨rfl, by decide, by decide, by decide⟩

/-- A part in a mode whose first frame is 19 ms old and in flight, with a read of PAGE waiting. -/
def readWaits (m : Mode) : State :=
  { inMode m with
    pins := { (inMode m).pins with keyLevels := 1 },
    display := { (inMode m).display with
      sinceFrame := some 19, port := .shifting, readWaiting := true, blankDue := m == .standby } }

/-- R172: the read that waits is made after the latch pulse. -/
theorem test_frame_latch_reads :
    let d := (after .frameLatch (readWaits .run)).display
    d.readWaiting = false ∧ (d.key .page).lastScan = some true ∧ (d.key .zero).lastScan = some false := by decide

theorem witness_FramesBeginAndLatch :
    let at_ := fun (t : Nat) (stale : Bool) => { inRun with
      display := { inRun.display with sinceFrame := some t, stale := stale } }
    (inRun.pins.resetLow = false ∧ inRun.display.port = .free ∧ inRun.modeCtl.mode ≠ .standby ∧
        inRun.display.sinceFrame = none) ∧
      ((at_ 100 false).display.sinceFrame = some 100 ∧ (at_ 20 true).display.stale = true ∧
        (at_ 19 true).display.sinceFrame = some 19 ∧ (at_ 99 false).display.stale = false) ∧
      ((shifting inRun).display.port = .shifting ∧ (shifting inRun).display.readWaiting = false) ∧
      ((readWaits .join).display.port = .shifting ∧ (readWaits .join).display.readWaiting = true ∧
        (readWaits .join).display.sinceFrame.isSome = true ∧ (readWaits .join).modeCtl.mode = .join ∧
        (readWaits .standby).display.blankDue = true ∧ (readWaits .service).modeCtl.mode = .service ∧
        (readWaits .run).modeCtl.mode = .run ∧
        (∀ i : Fin 8, (((readWaits .run).display.keys[i]).scan
          ((readWaits .run).pins.keyLevels.getLsbD i.val)).pressed = ((readWaits .run).display.keys[i]).pressed) ∧
        frameDue { readWaits .run with display := { (readWaits .run).display with
          glass := some (readWaits .run).display.image, image := [], port := .free } } = false) ∧
      (blankDue.pins.resetLow = false ∧ blankDue.modeCtl.mode = .standby ∧ blankDue.display.blankDue = true ∧
        blankDue.display.port = .free ∧ blankDue.display.sinceFrame = none) ∧
      inStandby.display.blankDue = false := by decide

/-- R181, R184: the bar shows the pending pass's fill, and NO CAL and CLASH light their lamps. -/
theorem test_frame_bar_and_lamps :
    let s := { withPass with line := { withPass.line with clash := true } }
    ((composeFrame s).getD 40 0).toNat = ((withPass.pass.pending.map (fun p => p.fill)).getD 0 / 50).toNat ∧
      (composeFrame { s with weigher := { s.weigher with state := .noCal } }).getD 41 0 &&& 0x28 = 0x28 := by decide

theorem witness_FramesAreWellFormed :
    (inRun.display.message = none ∧ (placeMessage .zeroSet inRun).display.message = some .zeroSet) ∧
      (withPass.pass.pending.or withPass.pass.lastShown).isSome = true ∧
      inRun.pass.pending.or inRun.pass.lastShown = none := by decide

/-- A part in a mode after its first frame. -/
def framed (m : Mode) : State :=
  { inMode m with display := { (inMode m).display with sinceFrame := some 100, keyMark := some 20 } }

theorem witness_KeysAreDebounced :
    (KeyState.start.lastScan ≠ some true ∧ (KeyState.start.scan false).lastScan ≠ some true) ∧
    ((pressing .page (inMode .start)).pins.resetLow = false ∧
        (pressing .page (inMode .start)).display.sinceFrame.isSome = true ∧
        (pressing .page (inMode .start)).modeCtl.mode = .start ∧
        (pressing .page (inMode .start)).display.port = .free ∧
        frameDue (pressing .page (inMode .start)) = false) ∧
      (frameDue (framed .join) = true ∧ (framed .join).modeCtl.mode = .join ∧
        (framed .closing).modeCtl.mode = .closing) ∧
      ((shifting (framed .join)).display.sinceFrame.isSome = true ∧
        (shifting (framed .join)).display.port ≠ .free) := by decide

/-- The level of one key alone. -/
def levelOf (k : Key) : BitVec 8 := 1#8 <<< (keyIdx k).val

/-- What KeysAct asks of a state and a key. -/
def pressesAlone (k : Key) (s : State) : Bool :=
  let d := (pressing k s).display
  !s.pins.resetLow && d.sinceFrame.isSome && d.port == .free && !frameDue (pressing k s) && !(d.key k).pressed
    && ((d.key k).scan ((levelOf k).getLsbD (keyIdx k).val)).pressed
    && allKeys.all (fun j => j == k ||
      ((d.key j).scan ((levelOf k).getLsbD (keyIdx j).val)).pressed == (d.key j).pressed)

theorem witness_KeysAct :
    (allKeys.all (fun k => pressesAlone k inRun && pressesAlone k inService) = true) ∧
      ((inMode .run).weigher.state = .off ∧ inRun.weigher.state = .above ∧
        ({ inRun with weigher := { Weigher.start with state := .noCal } } : State).weigher.state = .noCal) ∧
      (inRun.display.page = .load ∧ inRun.display.message = none ∧
        (placeMessage .zeroSet inRun).display.message.isSome = true) ∧
      (inRun.trucks.entries = [] ∧ loading.trucks.entries = [truck40117, waitingTruck 40233] ∧
        truck40117.passes ≠ [] ∧ (waitingTruck 1).passes = [] ∧ (waitingTruck 1).identity.isSome = true ∧
        (anonymousTruck inRun).passes = [] ∧ (anonymousTruck inRun).identity = none) ∧
      (inService.cal.capture = .idle ∧ capturing.cal.capture = .emptyArmed ∧
        inService.prod.available .pitch = false ∧
        (withSlot .pitch (slotOf 7 0)).prod.available .pitch = true) := by decide

/-- A journal with sector 0 ACTIVE and the others in the given states. -/
def sectored (x y z : SectorState) : Journal :=
  { State.reset.journal with sectors := #v[.active, x, y, z] }

/-- A request for a shift record of 22 words. -/
def request : AppendRequest := { kind := .shiftSnapshot, body := List.replicate 18 1#16, seq := none }

theorem witness_ArrayTakesWork :
    let j := sectored .erased .erased .erased
    let full := { j with fill := 1003 }
    (j.jstate ≠ .fault ∧ j.appendQueue.length < 4 ∧ { j with jstate := .fault }.jstate = .fault ∧
        4 ≤ { j with appendQueue := List.replicate 4 request }.appendQueue.length) ∧
      (j.active = some 0 ∧ 22 ≤ 1024 - { j with fill := 1002 }.fill ∧ 1024 - full.fill < 22 ∧
        full.nextSector 0 = some 1) ∧
      ({ j with sectors := #v[.faulted, .full, .erased, .full] }.active = none ∧
        rotationAfter 0 = [1] ++ 2 :: [3, 0] ∧ rotationAfter 0 = [1, 2, 3] ++ 0 :: [] ∧
        ({ j with sectors := #v[.erased, .full, .full, .full] }.active = none ∧ j.lastActive = 0 ∧
          { j with sectors := #v[.erased, .full, .full, .full] }.place 22 = some (0, 0)) ∧
        { j with sectors := #v[.faulted, .full, .full, .full] }.sector 3 ≠ .erased) ∧
      (j.job = none ∧ j.serving = none ∧ { j with serving := some 5 }.serving.isSome = true ∧
        (programming job0).journal.job.isSome = true) ∧
      ({ j with appendQueue := [request] }.appendPlace = some (request, 0, 0) ∧
        { j with carry := [{ original := 1, kind := .machine, body := [], seq := none }] }.carryPlace =
          some ({ original := 1, kind := .machine, body := [], seq := none }, 0, 0) ∧ j.carryPlace = none ∧
        j.appendPlace = none ∧ j.readQueue = [] ∧ { j with readQueue := [5] }.readQueue = 5 :: []) := by decide

/-- `sectored .full .erased .erased` with a MACHINE record in sector 1 and 85 words of body. -/
def carrying : Journal :=
  { sectored .full .erased .erased with
    readable := [{ sector := 1, addr := 0, kind := .machine, length := 89, seq := 4 }] }

set_option maxRecDepth 20000 in
theorem witness_EraseAheadCarriesForward :
    (erasing.journal.anyErasing = true ∧ carrying.anyErasing = false ∧ carrying.active = some 0 ∧
        carrying.nextSector 0 = some 1 ∧ carrying.sector 1 = .full ∧ (sectored .erased .full .full).sector 1 = .erased ∧
        (sectored .faulted .faulted .faulted).nextSector 0 = some 0 ∧
        (sectored .faulted .faulted .faulted).sector 0 = .active) ∧
      ((sectored .full .full .full).newCopies 1 = [] ∧ (carrying.newCopies 1).length = 1 ∧
        copyWords (carrying.newCopies 1) = 89 ∧ copyWords (carrying.newCopies 1) ≤ 1024 - { carrying with fill := 935 }.fill ∧
        1024 - { carrying with fill := 936 }.fill < copyWords (carrying.newCopies 1)) ∧
      ({ carrying with sectors := #v[.faulted, .full, .full, .erased] }.active = none ∧
        rotationAfter 0 = [1] ++ 2 :: [3, 0] ∧ carrying.holdsLatest 1 = true ∧ carrying.holdsLatest 2 = false ∧
        { carrying with sectors := #v[.faulted, .full, .faulted, .faulted] }.active = none ∧
        { carrying with sectors := #v[.faulted, .full, .faulted, .faulted] }.faultCondition = true) ∧
      (carrying.latestMachine = some { sector := 1, addr := 0, kind := .machine, length := 89, seq := 4 } ∧
        carrying.jstate ≠ .fault ∧ carrying.faultCondition = false ∧
        (sectored .faulted .erased .erased).sector 1 = .faulted ∧
        (sectored .faulted .erased .erased).faultCondition = false) := by decide

/-- `programming job0` with a fill, a target and a mark. -/
def writing (fill : Nat) (target : Option Nat) (mark : Bool) : State :=
  let s := programming job0
  { s with journal := { s.journal with fill := fill, target := target, mark := mark } }

/-- `saving` with a loaded capture waiting in CHECK. -/
def savingCheck : State :=
  { saving with cal := { saving.cal with
      capture := .check, candEmpty := some curves12.empty, candLoaded := some curves12.loaded } }

/-- `saving` where the save is a capture's. -/
def savingCapture : State := { saving with cal := { saving.cal with capture := .saving, save := some .capture } }

theorem witness_RecordsAreWritten :
    let s := programming job0
    let job := { job0 with kind := .machine }
    (s.pins.resetLow = false ∧ s.modeCtl.mode ≠ .closing ∧ s.journal.job = some job0 ∧ job0.kind ≠ .machine ∧
      Store.program s.journal.store (storeAddr job0.sector job0.addr) job0.words = ([(0, 1#16)], true) ∧
      s.journal.target = none ∧ s.journal.fill + job0.words.length < 768 ∧ s.journal.carry = []) ∧
    ((writing 766 none false).journal.fill + 1 < 768 ∧ 768 ≤ (writing 767 none false).journal.fill + 1 ∧
      (writing 767 none false).journal.mark = false ∧ (writing 767 (some 1) true).journal.target = some 1 ∧
      (writing 767 (some 1) true).journal.mark = true ∧
      (writing 767 none false).journal.appendQueue.tail.all (fun x => x.kind != .machine) = true) ∧
    (saving.pins.resetLow = false ∧ saving.modeCtl.mode ≠ .closing ∧ saving.journal.job = some job ∧
      job.kind = .machine ∧ job.fromCarry = false ∧
      Store.program saving.journal.store (storeAddr job.sector job.addr) job.words = ([(0, 1#16)], true) ∧
      saving.journal.fill + job.words.length < 768 ∧ saving.cal.save = some .settings ∧
      saving.cal.capture ≠ .check ∧ saving.cal.working = some record12 ∧ saving.journal.jstate ≠ .fault ∧
      saving.journal.appendQueue.tail.length < 4) ∧
    (savingCheck.modeCtl.mode ≠ .closing ∧ savingCheck.journal.job = some job ∧ savingCheck.cal.save = some .settings ∧
      savingCheck.cal.capture = .check ∧ savingCheck.cal.candEmpty = some curves12.empty ∧
      savingCheck.cal.candLoaded = some curves12.loaded ∧ savingCheck.cal.working = some record12 ∧
      savingCheck.journal.jstate ≠ .fault ∧ savingCheck.journal.appendQueue.tail.length < 4) ∧
    (savingCapture.modeCtl.mode ≠ .closing ∧ savingCapture.journal.job = some job ∧
      savingCapture.cal.save = some .capture ∧ savingCapture.cal.capture ≠ .check ∧
      savingCapture.cal.working = some record12) ∧
    (closingLast.pins.resetLow = false ∧ closingLast.modeCtl.mode = .closing ∧ closingLast.journal.job = some job0 ∧
      closingLast.journal.drainAsked = true ∧ closingLast.line.access ≠ .send ∧ closingLast.journal.carry = [] ∧
      closingLast.journal.appendQueue.tail = [] ∧ closingLast.journal.target = none ∧
      closingLast.journal.anyErasing = false ∧ closingLast.journal.fill + job0.words.length < 768) :=
  ⟨by decide, by decide, by decide, by decide, by decide, by decide⟩

/-- `serving` with one readable record, number 5. -/
def servingFound : State :=
  { serving with journal := { serving.journal with
      readable := [{ sector := 0, addr := 0, kind := .truckClosed, length := 17, seq := 5 }] } }

/-- `inRun` with a JOURNAL_READ of record 5 in the inbox and `n` reads waiting. -/
def readAsked (n : Nat) : State :=
  let s := withMail { sender := 9, kind := .journalRead, seq := 1, data := [0x6000, 0, 5] } inRun
  { s with journal := { s.journal with readQueue := List.replicate n 1 } }

theorem witness_ReadsAreServed :
    ((readAsked 1).pins.resetLow = false ∧
        (readAsked 1).line.inbox = [{ sender := 9, kind := .journalRead, seq := 1, data := [0x6000, 0, 5] }] ∧
        journalReadFields [0x6000, 0, 5] = ((readAsked 1).modeCtl.station, 5) ∧
        (readAsked 1).modeCtl.listenOnly = false ∧ (readAsked 1).modeCtl.mode = .run ∧
        (readAsked 1).journal.drainAsked = false ∧ (readAsked 1).journal.readQueue.length < 2 ∧
        2 ≤ (readAsked 2).journal.readQueue.length ∧ (journalReadFields [0x6800, 0, 5]).1 ≠ 12) ∧
      (serving.pins.resetLow = false ∧ serving.modeCtl.mode ≠ .standby ∧ serving.journal.serving = some 5 ∧
        serving.journal.findRead 5 = none) ∧
      (servingFound.journal.serving = some 5 ∧ (servingFound.journal.findRead 5).isSome = true) := by decide

theorem witness_ProgramFailureFaultsTheSector :
    let s := programming job0
    let done := { s with journal := { s.journal with store := [(0, 1#16)] } }
    s.pins.resetLow = false ∧ s.modeCtl.mode ≠ .closing ∧ s.journal.job = some job0 ∧ job0.sector < 4 ∧
      (0 < job0.words.length ∧ Store.read s.journal.store 0 ≠ job0.words.getD 0 0) ∧
      ((∀ k, k < job0.words.length → Store.read done.journal.store (0 + k) = job0.words.getD k 0) ∧
        Store.wf done.journal.store) ∧
      s.journal.appendQueue.all (fun q => q.kind != .machine) = true ∧
      (s.journal.active = some 0 ∧ s.journal.sector 1 ≠ .active ∧ s.journal.sector 2 ≠ .active ∧
        s.journal.sector 3 ≠ .active) ∧
      Store.wf s.journal.store ∧ storeAddr job0.sector job0.addr + job0.words.length ≤ 4096 := by decide

/-- `erasing` in CLOSING, its drain asked for. -/
def erasingClosing : State :=
  { erasing with
    modeCtl := { erasing.modeCtl with mode := .closing }, journal := { erasing.journal with drainAsked := true } }

theorem witness_ErasesComplete :
    erasing.pins.resetLow = false ∧ erasing.modeCtl.mode ≠ .closing ∧ erasing.journal.op = .erasing ∧
      erasing.journal.eraseSector = some 2 ∧ erasing.journal.deferred = false ∧ erasing.journal.carry = [] ∧
      erasing.journal.appendQueue = [] ∧ erasing.journal.readQueue = [] ∧ erasing.journal.job = none ∧
      erasing.journal.serving = none ∧ Store.wf erasing.journal.store ∧
      fullyErased erasing.journal.store 2 = false ∧
      erasing.journal.appendQueue.all (fun q => q.kind != .machine) = true ∧
      (erasingClosing.modeCtl.mode = .closing ∧ erasingClosing.journal.op = .erasing ∧
        erasingClosing.journal.drainAsked = true ∧ erasingClosing.line.access ≠ .send ∧
        erasingClosing.journal.eraseSector = some 2 ∧ erasingClosing.journal.sector 0 ≠ .erasing ∧
        erasingClosing.journal.sector 1 ≠ .erasing ∧ erasingClosing.journal.sector 3 ≠ .erasing) := by decide

theorem witness_OnlyTwoOperationsChangeTheArray :
    Store.wf erasing.journal.store ∧ exec .eraseDone erasing = .next (after .eraseDone erasing) ∧
      erasing.journal.erases 2047 = false ∧ erasing.journal.programs 2047 = false :=
  ⟨by decide, rfl, by decide, by decide⟩

theorem witness_WrittenRecordsAreFound :
    (Store.wf [] ∧ fullyErased [] 3 = true) ∧ (Store.wf [(2048, 1#16)] ∧ fullyErased [(2048, 1#16)] 3 = true) ∧
      (3 : Nat) < 4 ∧ (4294967295 : Nat) < 4294967296 ∧
      RecordKind.shiftSnapshot.allowsLength ((List.replicate 18 (0xFFFF#16 : Word)).length + 4) = true := by decide

theorem witness_FormAndBoundsAreKept :
    Store.wf erasing.journal.store ∧ erasing.queuesBounded = true ∧
      step { erasing with pending := [.eraseDone] } = .next (after .eraseDone erasing) :=
  ⟨by decide, by decide, rfl⟩

end Sys2Proof.Tests
end

section
/-! PROOFS. Rounding half away from zero, in its exact form (R1): the half is reached on one side only, and a
quotient never leaves a range of whole numbers that holds the exact one. -/

namespace Sys2Proof.Machine

/-- A numerator that is not negative: a half is rounded up, never down (R1). -/
theorem roundDiv_near_of_nonneg {n d : Int} (hd : 0 < d) (hn : 0 ≤ n) :
    2 * (d * roundDiv n d) - 2 * n ≤ d ∧ 2 * n - 2 * (d * roundDiv n d) < d := by
  have hdiv := Int.mul_ediv_add_emod (2 * n + d) (2 * d)
  have hrem0 := Int.emod_nonneg (2 * n + d) (show 2 * d ≠ 0 by omega)
  have hrem := Int.emod_lt_of_pos (2 * n + d) (show 0 < 2 * d by omega)
  rw [mul_assoc] at hdiv
  rw [roundDiv, if_pos hn]
  omega

/-- Rounding half away from zero treats both signs alike (R1). -/
theorem roundDiv_neg {n d : Int} (hd : 0 < d) : roundDiv (-n) d = -roundDiv n d := by
  rcases lt_trichotomy n 0 with hn | rfl | hn
  · rw [roundDiv, roundDiv, if_pos (by omega), if_neg (by omega), neg_neg]
  · have hzero : roundDiv 0 d = 0 := by
      rw [roundDiv, if_pos le_rfl]
      exact Int.ediv_eq_zero_of_lt (by omega) (by omega)
    rw [neg_zero, hzero, neg_zero]
  · rw [roundDiv, roundDiv, if_neg (by omega), if_pos (by omega), neg_neg]

/-- A negative numerator: a half is rounded down, never up (R1). -/
theorem roundDiv_near_of_neg {n d : Int} (hd : 0 < d) (hn : n < 0) :
    2 * n - 2 * (d * roundDiv n d) ≤ d ∧ 2 * (d * roundDiv n d) - 2 * n < d := by
  have h := roundDiv_near_of_nonneg hd (show 0 ≤ -n by omega)
  rw [roundDiv_neg hd, mul_neg] at h
  omega

/-- An exact quotient within a range of whole numbers is rounded to a value within it (R1). -/
theorem roundDiv_within {lo hi n d : Int} (hd : 0 < d) (hlo : lo * d ≤ n) (hhi : n ≤ hi * d) :
    lo ≤ roundDiv n d ∧ roundDiv n d ≤ hi := by
  obtain ⟨hup, hdown⟩ := roundDiv_near (n := n) hd
  constructor
  · by_contra h
    have : d * (roundDiv n d + 1) ≤ d * lo := mul_le_mul_of_nonneg_left (by omega) hd.le
    rw [mul_add, mul_one, mul_comm d lo] at this
    omega
  · by_contra h
    have : d * (hi + 1) ≤ d * roundDiv n d := mul_le_mul_of_nonneg_left (by omega) hd.le
    rw [mul_add, mul_one, mul_comm d hi] at this
    omega

end Sys2Proof.Machine
end

section
/-! PROOFS. The curve point of an angle (R8): its point and its distance past it are the quotient and the remainder
of the angle's place in the window by the spacing, so any such split of the angle is theirs. -/

namespace Sys2Proof.Machine.MachineRecord

/-- A window that is a whole multiple of 15 is fifteen spacings wide (R8). -/
theorem fifteen_mul_spacing {r : MachineRecord} (h : (r.thetaHi - r.thetaLo) % 15 = 0) :
    15 * r.spacing = r.thetaHi - r.thetaLo := by
  unfold spacing; omega

/-- The point and the distance past it give the angle back (R8). -/
theorem point_add_pastPoint (r : MachineRecord) (theta : Int) :
    r.thetaLo + r.pointBelow theta * r.spacing + r.pastPoint theta = theta := by
  unfold pastPoint; omega

/-- The distance past the point is the remainder of the angle's place in the window (R8). -/
theorem pastPoint_eq_emod (r : MachineRecord) (theta : Int) :
    r.pastPoint theta = (theta - r.thetaLo) % r.spacing := by
  rw [pastPoint, pointBelow, Int.emod_def, mul_comm]

/-- The distance past the point is less than a spacing (R8). -/
theorem pastPoint_bounds {r : MachineRecord} (hw : 0 < r.spacing) (theta : Int) :
    0 ≤ r.pastPoint theta ∧ r.pastPoint theta < r.spacing := by
  rw [pastPoint_eq_emod]
  exact ⟨Int.emod_nonneg _ hw.ne', Int.emod_lt_of_pos _ hw⟩

/-- Below the window's end the point is one of 0..14: point 15 is never the lower point of an interval (R8). -/
theorem pointBelow_bounds {r : MachineRecord} {theta : Int} (hw : 0 < r.spacing)
    (hspan : 15 * r.spacing = r.thetaHi - r.thetaLo) (hlo : r.thetaLo ≤ theta) (hhi : theta < r.thetaHi) :
    0 ≤ r.pointBelow theta ∧ r.pointBelow theta ≤ 14 := by
  have h15 : r.pointBelow theta < 15 := Int.ediv_lt_of_lt_mul hw (by omega)
  exact ⟨Int.ediv_nonneg (by omega) hw.le, by omega⟩

/-- The point and the distance past it are the only split of the angle with a distance below a spacing (R8). -/
theorem point_unique {r : MachineRecord} {theta k p : Int} (hp0 : 0 ≤ p) (hp : p < r.spacing)
    (h : theta = r.thetaLo + k * r.spacing + p) : r.pointBelow theta = k ∧ r.pastPoint theta = p := by
  rw [pastPoint_eq_emod, pointBelow, Int.ediv_emod_unique (by omega), mul_comm]
  exact ⟨by omega, hp0, hp⟩

/-- Settles O23: the bounds are those of a quotient and a remainder by the spacing, and both window edges are split
by hand. -/
theorem curvePoint : Obligations.CurvePoint := by
  intro r theta hwhole hwide hlo hhi
  have hspan := fifteen_mul_spacing hwhole
  have hw : 100 ≤ r.spacing := by omega
  have hpos : 0 < r.spacing := by omega
  obtain ⟨hk0, hk⟩ := pointBelow_bounds hpos hspan hlo hhi
  obtain ⟨hp0, hp⟩ := pastPoint_bounds hpos theta
  have hfirst : theta = r.thetaLo → r.pointBelow theta = 0 ∧ r.pastPoint theta = 0 :=
    fun h => point_unique le_rfl (by omega) (by omega)
  have hlast : theta = r.thetaHi - 1 → r.pointBelow theta = 14 ∧ r.pastPoint theta = r.spacing - 1 :=
    fun h => point_unique (by omega) (by omega) (by omega)
  exact ⟨hw, hspan, hk0, hk, hp0, by omega, point_add_pastPoint r theta, hfirst, hlast⟩

end Sys2Proof.Machine.MachineRecord
end

section
/-! PROOFS. The lift average (R26): a rounded quotient of the sum by a count that is not 0. -/

namespace Sys2Proof.Machine.Accumulator

/-- Settles O24: the two signs of the sum, and the range of the estimates as the range of their average. -/
theorem liftAverage : Obligations.LiftAverage := by
  intro a hcount
  have hc : (0 : Int) < a.count := by omega
  exact ⟨roundDiv_near_of_nonneg hc, roundDiv_near_of_neg hc, roundDiv_within hc⟩

end Sys2Proof.Machine.Accumulator
end

section
/-! PROOFS. The dump and boom-below events (R84, R88, R89, R90): a powered part outside STANDBY takes a waiting event
and hands it to the Pass Unit, which in CLEAR does nothing with it. -/

namespace Sys2Proof.Machine

/-- With the reset line high a command has its effect (R226). -/
theorem whilePowered_of_high {s : State} (hpow : s.pins.resetLow = false) (f : State → State) :
    whilePowered s f = .next (f s) := by
  simp [whilePowered, hpow]

/-- The blocks follow the loader in every mode but STANDBY (R126, R225). -/
theorem following_iff (s : State) : following s = true ↔ s.modeCtl.mode ≠ .standby := bne_iff_ne

/-- A waiting dump event is taken and given to the Pass Unit with its cycle tag (R84, R88). -/
theorem exec_dumpEvent_of_waiting {s : State} {tag : Nat} {rest : List Nat} (hpow : s.pins.resetLow = false)
    (hmode : s.modeCtl.mode ≠ .standby) (hdumps : s.mail.dumps = tag :: rest) :
    exec .dumpEvent s = .next (takeDump tag { s with mail := { s.mail with dumps := rest } }) := by
  have hfollow := (following_iff s).mpr hmode
  calc exec .dumpEvent s = execDumpEvent s := rfl
    _ = .next (takeDump tag { s with mail := { s.mail with dumps := rest } }) := by
      rw [execDumpEvent, whilePowered_of_high hpow]
      simp only [hfollow, hdumps]

/-- A waiting boom-below event is taken and given to the Pass Unit (R89, R90). -/
theorem exec_boomBelowEvent_of_waiting {s : State} (hpow : s.pins.resetLow = false)
    (hmode : s.modeCtl.mode ≠ .standby) (hbelow : s.mail.boomBelow ≠ 0) :
    exec .boomBelowEvent s =
      .next (takeBoomBelow { s with mail := { s.mail with boomBelow := s.mail.boomBelow - 1 } }) := by
  have hfollow := (following_iff s).mpr hmode
  calc exec .boomBelowEvent s = execBoomBelowEvent s := rfl
    _ = .next (takeBoomBelow { s with mail := { s.mail with boomBelow := s.mail.boomBelow - 1 } }) := by
      rw [execBoomBelowEvent, whilePowered_of_high hpow, if_pos ⟨hfollow, hbelow⟩]

/-- In CLEAR a dump event changes nothing (R88). -/
theorem takeDump_of_clear {s : State} (hclear : s.pass.pending = none) (tag : Nat) : takeDump tag s = s := by
  simp only [takeDump, hclear]

/-- In CLEAR a boom-below event changes nothing (R90). -/
theorem takeBoomBelow_of_clear {s : State} (hclear : s.pass.pending = none) : takeBoomBelow s = s := by
  simp only [takeBoomBelow, hclear]

/-- Settles O36: each event is taken from the mail, which leaves the Pass Unit in CLEAR, where it changes nothing. -/
theorem eventsInClearDoNothing : Obligations.EventsInClearDoNothing := by
  intro s hpow hmode hclear
  constructor
  · intro tag rest hdumps
    rw [exec_dumpEvent_of_waiting hpow hmode hdumps, takeDump_of_clear]
    exact hclear
  · intro hbelow
    rw [exec_boomBelowEvent_of_waiting hpow hmode hbelow, takeBoomBelow_of_clear]
    exact hclear

end Sys2Proof.Machine
end

section
/-! PROOFS. What an ordinary operation of the blocks keeps. Most operations hand telegrams to the Line Interface and
requests to the journal, and otherwise stay within their block; `Keeps` says what that means for the laws of
Safety.lean, so that a law is proved once for each operation and composed from there. -/

namespace Sys2Proof.Machine

/-! ## The Line Interface: telegrams handed over (R214, R215) -/

/-- A Line Interface after telegrams have been handed over to it. -/
inductive LineInterface.Offered (l : LineInterface) : LineInterface → Prop where
  | none : l.Offered l
  | offer {m : LineInterface} (k : TxKind) (d : List Word) : l.Offered m → l.Offered (m.offer k d)

theorem LineInterface.Offered.trans {l m n : LineInterface} (h : l.Offered m) (h' : m.Offered n) : l.Offered n := by
  induction h' with
  | none => exact h
  | offer k d _ ih => exact ih.offer k d

/-- The queue policy touches the queue, the sequences and the dropped counter alone. -/
theorem offer_frame (l : LineInterface) (k : TxKind) (d : List Word) :
    l.offer k d = { l with
      queue := (l.offer k d).queue, sendSeq := (l.offer k d).sendSeq, dropped := (l.offer k d).dropped } := by
  unfold LineInterface.offer LineInterface.enter
  repeat' split
  all_goals rfl

/-- Handing telegrams over touches the queue, the sequences and the dropped counter alone. -/
theorem LineInterface.Offered.frame {l m : LineInterface} (h : l.Offered m) :
    m = { l with queue := m.queue, sendSeq := m.sendSeq, dropped := m.dropped } := by
  induction h with
  | none => rfl
  | offer k d _ ih => rw [offer_frame, ih]

theorem LineInterface.Offered.clash {l m : LineInterface} (h : l.Offered m) : m.clash = l.clash := by rw [h.frame]

theorem LineInterface.Offered.inbox {l m : LineInterface} (h : l.Offered m) : m.inbox = l.inbox := by rw [h.frame]

theorem LineInterface.Offered.access {l m : LineInterface} (h : l.Offered m) : m.access = l.access := by rw [h.frame]

/-- Telegrams handed over keep the bound of the queue (R215). -/
theorem LineInterface.Offered.queue_length {l m : LineInterface} (h : l.Offered m) (hl : l.queue.length ≤ 8) :
    m.queue.length ≤ 8 := by
  induction h with
  | none => exact hl
  | offer k d _ ih => exact offer_length k d ih

/-! ## The journal: requests made of it (R190, R201, R202) -/

/-- What a request made of the journal keeps: the array, the order to drain and the bounds of the queues; and it drains
nothing. -/
structure Journal.Asked (j k : Journal) : Prop where
  store : k.store = j.store
  drainAsked : k.drainAsked = j.drainAsked
  undrained : k.drained = true → j.drained = true
  appends : j.appendQueue.length ≤ 4 → k.appendQueue.length ≤ 4
  reads : j.readQueue.length ≤ 2 → k.readQueue.length ≤ 2

theorem Journal.Asked.refl (j : Journal) : j.Asked j := ⟨rfl, rfl, id, id, id⟩

theorem Journal.Asked.trans {j k l : Journal} (h : j.Asked k) (h' : k.Asked l) : j.Asked l where
  store := h'.store.trans h.store
  drainAsked := h'.drainAsked.trans h.drainAsked
  undrained := h.undrained ∘ h'.undrained
  appends := h'.appends ∘ h.appends
  reads := h'.reads ∘ h.reads

/-- Making a sector ACTIVE moves sector states, the fill and the mark alone (R191). -/
theorem activate_frame (j : Journal) (n : Nat) :
    j.activate n = { j with
      sectors := (j.activate n).sectors, fill := (j.activate n).fill, lastActive := (j.activate n).lastActive,
      mark := (j.activate n).mark } := by
  unfold Journal.activate
  split
  · rfl
  · cases j.active <;> rfl

theorem activate_appendQueue (j : Journal) (n : Nat) : (j.activate n).appendQueue = j.appendQueue := by
  rw [activate_frame]

theorem activate_carry (j : Journal) (n : Nat) : (j.activate n).carry = j.carry := by
  rw [activate_frame]

theorem activate_readQueue (j : Journal) (n : Nat) : (j.activate n).readQueue = j.readQueue := by
  rw [activate_frame]

theorem activate_drainAsked (j : Journal) (n : Nat) : (j.activate n).drainAsked = j.drainAsked := by
  rw [activate_frame]

/-- A record begun leaves the reads and the order to drain, and the array is not drained. -/
theorem beginProgram_keeps (j : Journal) (f : Bool) (k : RecordKind) (b : List Word) (t : Option Nat) (p : Nat × Nat) :
    (j.beginProgram f k b t p).readQueue = j.readQueue ∧ (j.beginProgram f k b t p).drainAsked = j.drainAsked ∧
      (j.beginProgram f k b t p).drained = false := by
  unfold Journal.beginProgram
  cases t <;> simp [activate_readQueue, activate_drainAsked, Journal.advanceSeq, Journal.drained]

/-- Taking the next work is no request and drains nothing (R192). -/
theorem pump_asked (j : Journal) : j.Asked j.pump where
  store := pump_store j
  appends := by rw [pump_appendQueue_length]; exact id
  drainAsked := by
    unfold Journal.pump
    repeat' split
    all_goals simp [beginProgram_keeps]
  undrained := by
    unfold Journal.pump
    split
    · exact id
    · split
      · simp [beginProgram_keeps]
      · split
        · simp [beginProgram_keeps]
        · split <;> exact id
  reads := by
    unfold Journal.pump
    repeat' split
    all_goals simp_all [beginProgram_keeps]
    all_goals omega

/-- An append request (R190). -/
theorem append_asked (j : Journal) (kind : RecordKind) (body : List Word) : j.Asked (j.append kind body).1 := by
  rcases append_cases j kind body with ⟨-, heq⟩ | ⟨⟨-, hroom⟩, heq⟩
  · rw [heq]; exact ⟨rfl, rfl, id, id, id⟩
  · rw [heq]
    refine Journal.Asked.trans ?_ (pump_asked _)
    exact ⟨rfl, rfl, by simp [Journal.drained], fun _ => by simp; omega, id⟩

/-- A read request (R201). -/
theorem requestRead_asked (j : Journal) (seq : Nat) : j.Asked (j.requestRead seq) := by
  unfold Journal.requestRead
  split
  · exact ⟨rfl, rfl, id, id, id⟩
  · refine Journal.Asked.trans ?_ (pump_asked _)
    exact ⟨rfl, rfl, id, id, fun _ => by simp; omega⟩

/-! ## An operation -/

/-- What an operation of the blocks keeps that is no start, no change of mode and no end of line or array work: the queue
of commands, the Mode Controller, the Line Interface but for telegrams handed over, none where the part is muted, the
journal but for requests made of it, and the laws over the Truck List, the unweighed cycles and the pending pass. -/
structure Keeps (s t : State) : Prop where
  pending : t.pending = s.pending
  modeCtl : t.modeCtl = s.modeCtl
  line : s.line.Offered t.line
  silent : muted s = true → t.line = s.line
  journal : s.journal.Asked t.journal
  trucks : s.trucks.lawful = true → t.trucks.lawful = true
  unweighed : s.tally.unweighedLaw = true → t.tally.unweighedLaw = true
  pass : s.passLaw = true → t.passLaw = true

/-- Such an operation that leaves the clock and the shift number too. -/
structure Ordinary (s t : State) : Prop extends Keeps s t where
  clock : t.clock = s.clock
  shift : t.tally.shift = s.tally.shift

variable {s t u : State}

/-- What an operation keeps that hands nothing over, asks nothing of the journal and does not move the pending pass. -/
def State.keptParts (s : State) : List Instr × ModeCtl × Bool × Bool :=
  (s.pending, s.modeCtl, s.trucks.lawful, s.tally.unweighedLaw)

/-- An operation that may hand over, ask the journal and move the pending pass, and beyond keeps to other fields. -/
theorem Keeps.of_parts (hline : s.line.Offered t.line) (hsilent : muted s = true → t.line = s.line)
    (hjournal : s.journal.Asked t.journal) (hpass : s.passLaw = true → t.passLaw = true)
    (h : t.keptParts = s.keptParts) : Keeps s t := by
  simp only [State.keptParts, Prod.mk.injEq] at h
  obtain ⟨hpending, hmode, htrucks, hunweighed⟩ := h
  exact ⟨hpending, hmode, hline, hsilent, hjournal, htrucks ▸ id, hunweighed ▸ id, hpass⟩

/-- An operation that may move the pending pass. -/
theorem Keeps.of_pass (h : (t.keptParts, t.line, t.journal) = (s.keptParts, s.line, s.journal))
    (hpass : s.passLaw = true → t.passLaw = true) : Keeps s t := by
  simp only [Prod.mk.injEq] at h
  obtain ⟨hparts, hline, hjournal⟩ := h
  exact .of_parts (hline ▸ .none) (fun _ => hline) (hjournal ▸ .refl _) hpass hparts

/-- An operation that keeps to other fields. -/
theorem Keeps.of_same (h : (t.keptParts, t.line, t.journal, t.passLaw) = (s.keptParts, s.line, s.journal, s.passLaw)) :
    Keeps s t := by
  simp only [Prod.mk.injEq] at h
  obtain ⟨hparts, hline, hjournal, hpass⟩ := h
  exact .of_pass (by rw [hparts, hline, hjournal]) (hpass ▸ id)

/-- An ordinary operation that asks the journal. -/
theorem Ordinary.of_journal (hjournal : s.journal.Asked t.journal)
    (h : (t.keptParts, t.line, t.passLaw, t.clock, t.tally.shift) =
      (s.keptParts, s.line, s.passLaw, s.clock, s.tally.shift)) : Ordinary s t := by
  simp only [Prod.mk.injEq] at h
  obtain ⟨hparts, hline, hpass, hclock, hshift⟩ := h
  exact ⟨.of_parts (hline ▸ .none) (fun _ => hline) hjournal (hpass ▸ id) hparts, hclock, hshift⟩

theorem Ordinary.of_pass (h : (t.keptParts, t.line, t.journal, t.clock, t.tally.shift) =
    (s.keptParts, s.line, s.journal, s.clock, s.tally.shift))
    (hpass : s.passLaw = true → t.passLaw = true) : Ordinary s t := by
  simp only [Prod.mk.injEq] at h
  obtain ⟨hparts, hline, hjournal, hclock, hshift⟩ := h
  exact ⟨.of_pass (by rw [hparts, hline, hjournal]) hpass, hclock, hshift⟩

theorem Ordinary.of_same (h : (t.keptParts, t.line, t.journal, t.passLaw, t.clock, t.tally.shift) =
    (s.keptParts, s.line, s.journal, s.passLaw, s.clock, s.tally.shift)) : Ordinary s t := by
  simp only [Prod.mk.injEq] at h
  obtain ⟨hparts, hline, hjournal, hpass, hclock, hshift⟩ := h
  exact .of_pass (by rw [hparts, hline, hjournal, hclock, hshift]) (hpass ▸ id)

theorem Keeps.muted_eq (h : Keeps s t) : muted t = muted s := by
  unfold muted; rw [h.modeCtl, h.line.clash]

theorem Keeps.trans (h : Keeps s t) (h' : Keeps t u) : Keeps s u where
  pending := h'.pending.trans h.pending
  modeCtl := h'.modeCtl.trans h.modeCtl
  line := h.line.trans h'.line
  silent := fun hm => (h'.silent (h.muted_eq.trans hm)).trans (h.silent hm)
  journal := h.journal.trans h'.journal
  trucks := h'.trucks ∘ h.trucks
  unweighed := h'.unweighed ∘ h.unweighed
  pass := h'.pass ∘ h.pass

theorem Keeps.refl (s : State) : Keeps s s := .of_same rfl

theorem Ordinary.refl (s : State) : Ordinary s s := .of_same rfl

theorem Ordinary.trans (h : Ordinary s t) (h' : Ordinary t u) : Ordinary s u where
  toKeeps := h.toKeeps.trans h'.toKeeps
  clock := h'.clock.trans h.clock
  shift := h'.shift.trans h.shift

/-- A choice between ordinary operations is ordinary. -/
theorem Ordinary.ite {p : Prop} [Decidable p] (h : p → Ordinary s t) (h' : ¬p → Ordinary s u) :
    Ordinary s (if p then t else u) := by
  split
  · exact h ‹_›
  · exact h' ‹_›

theorem Keeps.ite {p : Prop} [Decidable p] (h : p → Keeps s t) (h' : ¬p → Keeps s u) :
    Keeps s (if p then t else u) := by
  split
  · exact h ‹_›
  · exact h' ‹_›

/-! ## The operations the blocks share -/

theorem notice_ordinary (s : State) : Ordinary s (notice s) := .of_same rfl

theorem placeMessage_ordinary (m : Message) (s : State) : Ordinary s (placeMessage m s) := .of_same rfl

theorem clearMessage_ordinary (s : State) : Ordinary s (clearMessage s) := .of_same rfl

theorem placeIfAny_ordinary (m : Option Message) (s : State) : Ordinary s (placeIfAny m s) := by
  cases m with
  | none => exact .of_same rfl
  | some m => exact placeMessage_ordinary m s

theorem transmit_ordinary (k : TxKind) (d : List Word) (s : State) : Ordinary s (transmit k d s) := by
  unfold transmit
  split
  · exact .of_same rfl
  · next hm => exact ⟨.of_parts (.offer k d .none) (fun h => absurd h hm) (.refl _) id rfl, rfl, rfl⟩

theorem requestAppend_ordinary (k : RecordKind) (b : List Word) (s : State) : Ordinary s (requestAppend k b s) :=
  .of_journal (append_asked _ k b) rfl

theorem raiseDump_ordinary (tag : Nat) (s : State) : Ordinary s (raiseDump tag s) := .of_same rfl

theorem raiseBoomBelow_ordinary (s : State) : Ordinary s (raiseBoomBelow s) := .of_same rfl

theorem raiseCommitReport_ordinary (tag : Nat) (s : State) : Ordinary s (raiseCommitReport tag s) := .of_same rfl

theorem setProducers_ordinary (p : ProducerTable) (s : State) : Ordinary s (setProducers p s) := by
  unfold setProducers
  split <;> exact .of_same rfl

theorem setCycle_ordinary (c : CycleTracker) (s : State) : Ordinary s (setCycle c s) := .of_same rfl

theorem setCapture_ordinary (x : CaptureState) (s : State) : Ordinary s (setCapture x s) := .of_same rfl

/-- A tally request whose figures keep the law of the unweighed cycles and the shift number. -/
theorem tallyRequest_ordinary {f : ShiftFigures → ShiftFigures} (hshift : (f s.tally).shift = s.tally.shift)
    (hlaw : s.tally.unweighedLaw = true → (f s.tally).unweighedLaw = true) : Ordinary s (tallyRequest f s) :=
  ⟨⟨rfl, rfl, .none, fun _ => rfl, .refl _, id, hlaw, id⟩, rfl, hshift⟩

end Sys2Proof.Machine
end

section
/-! PROOFS. The Truck List and the Pass Unit: each operation keeps the laws over the list (R102, R103, R106). -/

namespace Sys2Proof.Machine

/-! ## The laws over a list of trucks -/

/-- The laws over the list, entry by entry (R102, R103). -/
theorem lawful_iff (l : TruckList) :
    l.lawful = true ↔ l.entries.length ≤ 4 ∧ (∀ e ∈ l.entries, e.lawful = true) ∧
      (∀ e ∈ l.entries.tail, e.waiting = true) ∧ (l.entries.filterMap (fun e => e.identity)).Nodup := by
  simp [TruckList.lawful, and_assoc]

/-- A list that keeps some of the entries in their order is as lawful. -/
theorem lawful_of_sublist {l m : TruckList} (hsub : m.entries.Sublist l.entries) (h : l.lawful = true) :
    m.lawful = true := by
  obtain ⟨hlen, hall, hwait, hnodup⟩ := (lawful_iff l).1 h
  refine (lawful_iff m).2 ⟨hsub.length_le.trans hlen, fun e he => hall e (hsub.subset he),
    fun e he => hwait e (hsub.tail.subset he), (hsub.filterMap _).nodup hnodup⟩

/-- A list whose entries are replaced one for one, by entries of the same identity that are as lawful and as much
waiting, is as lawful. -/
theorem lawful_set {l m : TruckList} {n : Nat} {e e' : TruckEntry} (hn : l.entries[n]? = some e)
    (hid : e'.identity = e.identity) (hlaw : e.lawful = true → e'.lawful = true)
    (hwait : n ≠ 0 → e.waiting = true → e'.waiting = true) (hm : m.entries = l.entries.set n e')
    (h : l.lawful = true) : m.lawful = true := by
  obtain ⟨hlen, hall, hwaits, hnodup⟩ := (lawful_iff l).1 h
  have hmem : e ∈ l.entries := List.mem_of_getElem? hn
  refine (lawful_iff m).2 ⟨by simpa [hm] using hlen, fun f hf => ?_, fun f hf => ?_, ?_⟩
  · rw [hm] at hf
    rcases List.mem_or_eq_of_mem_set hf with hf | rfl
    · exact hall f hf
    · exact hlaw (hall e hmem)
  · rw [hm] at hf
    cases hl : l.entries with
    | nil => simp [hl] at hf
    | cons x rest =>
      rw [hl] at hf hn hwaits
      cases n with
      | zero => exact hwaits f hf
      | succ n =>
        rw [List.set_cons_succ, List.tail_cons] at hf
        rcases List.mem_or_eq_of_mem_set hf with hf | rfl
        · exact hwaits f hf
        · exact hwait n.succ_ne_zero (hwaits e (List.mem_of_getElem? hn))
  · have hmap : m.entries.map (fun e => e.identity) = l.entries.map (fun e => e.identity) := by
      obtain ⟨hlt, rfl⟩ := List.getElem?_eq_some_iff.1 hn
      rw [hm, List.map_set, hid, ← List.getElem_map (fun e : TruckEntry => e.identity), List.set_getElem_self]
      simpa using hlt
    have hids (k : List TruckEntry) :
        k.filterMap (fun e => e.identity) = (k.map (fun e => e.identity)).filterMap id := by
      rw [List.filterMap_map]; rfl
    rw [hids, hmap, ← hids]
    exact hnodup

/-- The laws over one truck (R103, R106). -/
theorem entry_lawful_iff (e : TruckEntry) :
    e.lawful = true ↔ e.total = (e.passes.map (fun p => p.weight)).sum ∧
      e.passes.map (fun p => p.number) = (List.range e.passes.length).map (fun n => n + 1) ∧
      e.passes.length < 15 := by
  simp [TruckEntry.lawful, and_assoc]

/-- A waiting truck is identified and holds nothing (R102). -/
theorem waiting_iff (e : TruckEntry) :
    e.waiting = true ↔ e.identity.isSome = true ∧ e.passes = [] ∧ e.total = 0 := by
  simp [TruckEntry.waiting, and_assoc]

/-- A truck without passes is lawful (R103). -/
theorem lawful_of_no_passes {e : TruckEntry} (hp : e.passes = []) (ht : e.total = 0) : e.lawful = true := by
  simp [entry_lawful_iff, hp, ht]

/-- Judging the flags leaves what the laws speak of. -/
theorem judged_lawful (e : TruckEntry) (tol : Int) : (e.judged tol).lawful = e.lawful := rfl

/-- A pass joins a truck that has room below the fifteenth (R103, R104, R106). -/
theorem withPass_lawful {e : TruckEntry} {tol : Int} {p : PassRecord} (h : e.lawful = true)
    (hroom : e.passes.length + 1 ≠ 15) : (e.withPass tol p).lawful = true := by
  obtain ⟨htotal, hnumbers, hlen⟩ := (entry_lawful_iff e).1 h
  refine (entry_lawful_iff _).2 ⟨?_, ?_, ?_⟩
  · simp [TruckEntry.withPass, TruckEntry.judged, htotal]
  · simp [TruckEntry.withPass, TruckEntry.judged, hnumbers, List.range_succ]
  · simp [TruckEntry.withPass, TruckEntry.judged]; omega

/-- The last pass leaves a truck (R103, R112). -/
theorem withoutLast_lawful {e : TruckEntry} {tol : Int} {p : CommittedPass} (h : e.lawful = true)
    (hp : e.passes.getLast? = some p) : (e.withoutLast tol p.weight).lawful = true := by
  obtain ⟨htotal, hnumbers, hlen⟩ := (entry_lawful_iff e).1 h
  obtain ⟨front, hfront⟩ := List.getLast?_eq_some_iff.1 hp
  refine (entry_lawful_iff _).2 ⟨?_, ?_, ?_⟩
  · simp [TruckEntry.withoutLast, TruckEntry.judged, htotal, hfront]
  · rw [hfront] at hnumbers
    simp only [List.map_append, List.length_append, List.length_singleton, List.range_succ] at hnumbers
    simpa [TruckEntry.withoutLast, TruckEntry.judged, hfront] using (List.append_inj hnumbers (by simp)).1
  · rw [hfront] at hlen
    simp [TruckEntry.withoutLast, TruckEntry.judged, hfront] at hlen ⊢; omega

/-- A truck that is not listed joins the tail (R109). -/
theorem lawful_join {l m : TruckList} {e : TruckEntry} {id : BitVec 32} (hm : m.entries = l.entries ++ [e])
    (hid : e.identity = some id) (hwait : e.waiting = true) (hnew : ∀ f ∈ l.entries, f.identity ≠ some id)
    (hroom : l.entries.length < 4) (h : l.lawful = true) : m.lawful = true := by
  obtain ⟨hlen, hall, hwaits, hnodup⟩ := (lawful_iff l).1 h
  obtain ⟨-, hp, ht⟩ := (waiting_iff e).1 hwait
  rw [lawful_iff, hm]
  refine ⟨by simp; omega, ?_, ?_, ?_⟩
  · simpa [or_imp, forall_and, lawful_of_no_passes hp ht] using hall
  · cases hl : l.entries with
    | nil => simp
    | cons x rest => simpa [hl, or_imp, forall_and, hwait] using hwaits
  · rw [List.filterMap_append, List.nodup_append]
    refine ⟨hnodup, by simp [hid], ?_⟩
    simp only [List.mem_filterMap, List.filterMap_cons, hid, List.filterMap_nil, List.mem_singleton]
    rintro a ⟨f, hf, hfa⟩ b rfl rfl
    exact hnew f hf hfa

/-- An identified head without passes goes to the end of the list (R111). -/
theorem lawful_rotate {l m : TruckList} {e : TruckEntry} {rest : List TruckEntry} (hl : l.entries = e :: rest)
    (hm : m.entries = rest ++ [e]) (hid : e.identity.isSome = true) (hp : e.passes = []) (h : l.lawful = true) :
    m.lawful = true := by
  obtain ⟨hlen, hall, hwaits, hnodup⟩ := (lawful_iff l).1 h
  have hperm : m.entries.Perm l.entries := by
    rw [hl, hm]; exact (List.perm_append_singleton e rest)
  have he : e.lawful = true := hall e (by simp [hl])
  have hwait : e.waiting = true :=
    (waiting_iff e).2 ⟨hid, hp, by simpa [hp] using ((entry_lawful_iff e).1 he).1⟩
  refine (lawful_iff m).2 ⟨hperm.length_eq ▸ hlen, fun f hf => hall f (hperm.subset hf), fun f hf => ?_,
    (hperm.filterMap _).nodup_iff.2 hnodup⟩
  have hf' := List.mem_of_mem_tail hf
  rw [hm, List.mem_append, List.mem_singleton] at hf'
  rcases hf' with hf' | rfl
  · exact hwaits f (by simpa [hl] using hf')
  · exact hwait

/-! ## The Truck List's operations -/

variable {s t : State}

/-- Replacing the entries of the list by as lawful ones (R170). -/
theorem setEntries_ordinary {l : List TruckEntry} (s : State)
    (h : s.trucks.lawful = true → ({ s.trucks with entries := l } : TruckList).lawful = true) :
    Ordinary s (setEntries l s) :=
  ⟨⟨rfl, rfl, .none, fun _ => rfl, .refl _, h, id, id⟩, rfl, rfl⟩

/-- The laws over the list may be judged at the end of a chain of operations. -/
theorem Ordinary.of_trucks {l : TruckList} (h : Ordinary { s with trucks := l } t)
    (hlaw : s.trucks.lawful = true → t.trucks.lawful = true) : Ordinary s t :=
  { h with trucks := hlaw }

theorem sendTruckState_ordinary (e : TruckEntry) (p : TruckPosition) (n : Nat) (s : State) :
    Ordinary s (sendTruckState e p n s) := transmit_ordinary _ _ s

theorem closeHead_entries {reason : CloseReason} {e : TruckEntry} {rest : List TruckEntry}
    (h : s.trucks.entries = e :: rest) : (closeHead reason s).trucks.entries = rest := by
  rw [closeHead_of_cons h]

theorem closeHead_pass (reason : CloseReason) (s : State) : (closeHead reason s).pass = s.pass := by
  cases h : s.trucks.entries with
  | nil => simp [closeHead, h]
  | cons e rest => rw [closeHead_of_cons h]

theorem closeHead_ordinary (reason : CloseReason) (s : State) : Ordinary s (closeHead reason s) := by
  cases h : s.trucks.entries with
  | nil => rw [show closeHead reason s = s by simp [closeHead, h]]; exact .refl s
  | cons e rest =>
    rw [closeHead_of_cons h]
    have hsent := transmit_ordinary .truckState
      (truckStateData s.tally.shift e (.closed reason) .none rest.length) s
    exact ⟨⟨rfl, rfl, hsent.line, hsent.silent, append_asked _ _ _, lawful_of_sublist (by simp [h]), id, id⟩, rfl, rfl⟩

theorem truckCommit_ordinary (p : PassRecord) (s : State) : Ordinary s (truckCommit p s) := by
  rcases hhead : headForCommit s with ⟨e, rest⟩
  have hcounted (l : List TruckEntry) : Ordinary { s with trucks := { s.trucks with entries := l } }
      (tallyRequest (fun f => f.passCommitted p.weight.toNat) (setEntries l s)) := .of_same rfl
  have hlawful (h : s.trucks.lawful = true) :
      ({ s.trucks with entries := e :: rest } : TruckList).lawful = true := by
    unfold headForCommit at hhead
    cases hl : s.trucks.entries with
    | nil =>
      simp only [hl, Prod.mk.injEq] at hhead
      simp [← hhead.1, ← hhead.2, anonymousTruck, lawful_iff, entry_lawful_iff]
    | cons x xs =>
      simp only [hl, Prod.mk.injEq] at hhead
      rw [← hhead.1, ← hhead.2, ← hl]; exact h
  simp only [truckCommit, hhead]
  refine Ordinary.of_trucks (((hcounted _).trans (transmit_ordinary _ _ _)).trans
    (.ite (fun _ => closeHead_ordinary _ _) (fun _ => sendTruckState_ordinary _ _ _ _))) fun h => ?_
  split
  · next h15 =>
    refine lawful_of_sublist ?_ (hlawful h)
    rw [closeHead_entries (e := e.withPass s.cal.active.overTolerance p) (rest := rest) (by simp)]
    simp
  · next h15 =>
    refine (sendTruckState_ordinary _ _ _ _).trucks ?_
    refine lawful_set (n := 0) (e := e) (e' := e.withPass s.cal.active.overTolerance p) (by simp) rfl
      (fun he => withPass_lawful he ?_) (by simp) (by simp) (hlawful h)
    simpa [TruckEntry.withPass, TruckEntry.judged] using h15

theorem truckCommit_pass (p : PassRecord) (s : State) : (truckCommit p s).pass = s.pass := by
  simp only [truckCommit]
  split
  · rw [closeHead_pass]; simp
  · simp [sendTruckState]

theorem retarget_ordinary {n : Nat} {e : TruckEntry} (v : Int) {s : State} (hn : s.trucks.entries[n]? = some e) :
    Ordinary s (retarget n e v s) := by
  have hset : Ordinary s (setEntries (s.trucks.entries.set n
      (TruckEntry.judged { e with target := v } s.cal.active.overTolerance)) s) :=
    setEntries_ordinary s (lawful_set hn (e' := TruckEntry.judged { e with target := v } s.cal.active.overTolerance)
      rfl id (fun _ => id) rfl)
  exact .ite (fun _ => hset) fun _ => hset.trans (sendTruckState_ordinary _ _ _ _)

/-- An identity that is not found is not listed (R107). -/
theorem findTruck_none {id : BitVec 32} {l : List TruckEntry} (h : findTruck id l = none) :
    ∀ e ∈ l, e.identity ≠ some id := by
  simpa [findTruck, List.findIdx?_eq_none_iff] using h

theorem announce_ordinary (id : BitVec 32) (v : Int) (s : State) : Ordinary s (announce id v s) := by
  refine .ite (fun _ => ?_) fun _ => .refl s
  split
  · next n _ =>
    split
    · next e hn => exact retarget_ordinary _ hn
    · exact .refl s
  · next hnone =>
    refine .ite (fun hroom => setEntries_ordinary s ?_) fun _ => ?_
    · exact lawful_join rfl rfl (by simp [waiting_iff]) (findTruck_none hnone) hroom
    · exact Ordinary.trans (t := { s with trucks := { s.trucks with refused := inc s.trucks.refused } })
        (.of_same (by rfl)) (placeMessage_ordinary _ _)

theorem depart_ordinary (id : BitVec 32) (s : State) : Ordinary s (depart id s) := by
  refine .ite (fun _ => ?_) fun _ => .refl s
  split
  · exact .of_same rfl
  · split
    · exact .ite (fun _ => closeHead_ordinary _ s) fun _ =>
        setEntries_ordinary s (lawful_of_sublist (List.eraseIdx_sublist _ _))
    · exact .refl s

theorem nextKey_ordinary (s : State) : Ordinary s (nextKey s) := by
  unfold nextKey
  split
  · exact placeMessage_ordinary _ s
  · next e rest hl =>
    refine .ite (fun _ => closeHead_ordinary _ s) fun hp => .ite (fun _ => ?_) fun hid =>
      .ite (fun _ => placeMessage_ordinary _ s) fun _ => ?_
    · exact (setEntries_ordinary s (lawful_of_sublist (by simp [hl]))).trans (placeMessage_ordinary _ _)
    · refine (setEntries_ordinary s (lawful_rotate hl rfl ?_ (not_not.1 hp))).trans (placeMessage_ordinary _ _)
      simpa [Option.isSome_iff_ne_none] using hid

theorem deletePass_ordinary (s : State) : Ordinary s (deletePass s) := by
  unfold deletePass
  split
  · exact placeMessage_ordinary _ s
  · next e rest hl =>
    split
    · exact placeMessage_ordinary _ s
    · next p hp =>
      have hset : Ordinary s (setEntries (e.withoutLast s.cal.active.overTolerance p.weight :: rest) s) :=
        setEntries_ordinary s (lawful_set (n := 0) (e := e) (e' := e.withoutLast s.cal.active.overTolerance p.weight)
          (by simp [hl]) rfl (fun he => withoutLast_lawful he hp) (by simp) (by simp [hl]))
      have hcounted := tallyRequest_ordinary (f := fun f => f.passDeleted p.weight.toNat)
        (s := setEntries (e.withoutLast s.cal.active.overTolerance p.weight :: rest) s) rfl fun h => h
      exact ((hset.trans hcounted).trans (sendTruckState_ordinary
        (e.withoutLast s.cal.active.overTolerance p.weight) .head (rest.length + 1) _)).trans (.of_same (by rfl))

theorem shiftChangeClose_ordinary (s : State) : Ordinary s (shiftChangeClose s) :=
  .ite (fun _ => closeHead_ordinary _ s) fun _ => .refl s

theorem keyOffClose_ordinary (s : State) : Ordinary s (keyOffClose s) := by
  have hclosed : Ordinary s (if headHoldsPass s then closeHead .keyOff s else s) :=
    .ite (fun _ => closeHead_ordinary _ s) fun _ => .refl s
  exact hclosed.trans (setEntries_ordinary _ fun _ => by simp [lawful_iff])

/-! ## The Pass Unit's operations -/

/-- The Weigher is OFF exactly outside RUN (R4). -/
theorem offOutsideRun_iff (s : State) :
    s.offOutsideRun = true ↔ (s.modeCtl.mode = .run ↔ s.weigher.state ≠ .off) := by
  rw [State.offOutsideRun, beq_iff_eq, Bool.eq_iff_iff, beq_iff_eq, bne_iff_ne]

/-- The laws of the pending pass in HELD (R30, R31, R93). -/
theorem passLaw_held (h : s.weigher.state = .held) :
    s.passLaw = true ↔ s.modeCtl.mode = .run ∧
      (s.pass.pending.isSome = true ∧ s.mail.resolutions = 0 ∨ s.pass.pending = none ∧ s.mail.resolutions = 1) := by
  simp [State.passLaw, offOutsideRun_iff, State.onePass, h]

/-- A Weigher that follows the boom: it is neither OFF nor in HELD. -/
def WeigherState.follows (x : WeigherState) : Bool := x != .off && x != .held

/-- The laws of the pending pass while the Weigher follows the boom (R4, R30). -/
theorem passLaw_follows (h : s.weigher.state.follows = true) :
    s.passLaw = true ↔ s.modeCtl.mode = .run ∧ s.pass.pending = none ∧ s.mail.resolutions = 0 := by
  cases hs : s.weigher.state <;> rw [hs] at h <;>
    simp_all [WeigherState.follows, State.passLaw, offOutsideRun_iff, State.onePass]

/-- The laws of the pending pass while the Weigher is OFF (R4). -/
theorem passLaw_off (h : s.weigher.state = .off) :
    s.passLaw = true ↔ s.modeCtl.mode ≠ .run ∧ s.pass.pending = none ∧
      (s.mail.resolutions = 0 ∨ s.modeCtl.mode = .closing ∨ s.modeCtl.mode = .standby) := by
  simp [State.passLaw, offOutsideRun_iff, State.onePass, h, or_assoc]

/-- A pass is pending in HELD only, and its resolution is not under way (R93). -/
theorem held_of_pending (h : s.passLaw = true) (hp : s.pass.pending.isSome = true) :
    s.weigher.state = .held ∧ s.modeCtl.mode = .run ∧ s.mail.resolutions = 0 := by
  have hne : s.pass.pending ≠ none := Option.isSome_iff_ne_none.1 hp
  by_cases hheld : s.weigher.state = .held
  · obtain ⟨hmode, ⟨-, hres⟩ | ⟨hnone, -⟩⟩ := (passLaw_held hheld).1 h
    · exact ⟨hheld, hmode, hres⟩
    · exact absurd hnone hne
  · by_cases hoff : s.weigher.state = .off
    · exact absurd ((passLaw_off hoff).1 h).2.1 hne
    · exact absurd ((passLaw_follows (by simp [WeigherState.follows, hoff, hheld])).1 h).2.1 hne

/-- A pending pass is resolved (R93). -/
theorem resolvePass_ordinary (hp : s.pass.pending.isSome = true) : Ordinary s (resolvePass s) := by
  refine .of_pass rfl fun h => ?_
  obtain ⟨hheld, hmode, hres⟩ := held_of_pending h hp
  exact (passLaw_held (s := resolvePass s) hheld).2 ⟨hmode, .inr ⟨rfl, congrArg (· + 1) hres⟩⟩

theorem takeDump_ordinary (tag : Nat) (s : State) : Ordinary s (takeDump tag s) := by
  unfold takeDump
  split
  · exact .refl s
  · next p hp =>
    have hshown : Ordinary (truckCommit p s)
        { truckCommit p s with pass := { (truckCommit p s).pass with lastShown := some p } } := .of_same rfl
    refine (((truckCommit_ordinary p s).trans hshown).trans (raiseCommitReport_ordinary tag _)).trans
      (resolvePass_ordinary ?_)
    simp [truckCommit_pass, hp]

theorem takeBoomBelow_ordinary (s : State) : Ordinary s (takeBoomBelow s) := by
  unfold takeBoomBelow
  split
  · exact .refl s
  · next p hp =>
    exact ((tallyRequest_ordinary rfl id).trans (placeMessage_ordinary _ _)).trans
      (resolvePass_ordinary (by simp [hp]))

theorem deleteAction_ordinary (s : State) : Ordinary s (deleteAction s) := by
  unfold deleteAction
  split
  · next p hp => exact (placeMessage_ordinary _ s).trans (resolvePass_ordinary (by simp [hp]))
  · exact deletePass_ordinary s

theorem closingDiscard_ordinary (s : State) : Ordinary s (closingDiscard s) := by
  unfold closingDiscard
  split
  · next p hp => exact resolvePass_ordinary (by simp [hp])
  · exact .refl s

theorem materialKey_ordinary (s : State) : Ordinary s (materialKey s) :=
  .of_pass rfl (by simp [materialKey, State.passLaw, State.offOutsideRun, State.onePass])

end Sys2Proof.Machine
end

section
/-! PROOFS. The Weigher, the Calibration Unit, the Cycle Tracker, dispatch and the Display Controller: their operations
are ordinary; and those of the Shift Clock keep what `Keeps` names. -/

namespace Sys2Proof.Machine

variable {s : State}

/-! ## The Weigher -/

/-- The Weigher moves between states in which it follows the boom. -/
theorem setWeigher_ordinary {w : Weigher} (hs : s.weigher.state.follows = true) (hw : w.state.follows = true) :
    Ordinary s { s with weigher := w } :=
  .of_pass rfl fun h => (passLaw_follows (s := { s with weigher := w }) hw).2 ((passLaw_follows hs).1 h)

theorem belowOrAbove_follows (b : Option Int) (lo : Int) : (belowOrAbove b lo).follows = true := by
  unfold belowOrAbove
  repeat' split
  all_goals rfl

theorem abortLift_ordinary (reason : AbortReason) (hs : s.weigher.state.follows = true) :
    Ordinary s (abortLift reason s) :=
  ((setWeigher_ordinary hs (belowOrAbove_follows _ _)).trans (tallyRequest_ordinary (f := .liftAborted) rfl fun h => h)).trans
    (placeMessage_ordinary _ _)

theorem lapseLift_ordinary {due : Bool} (reason : AbortReason)
    (hdue : due = true → s.weigher.state = .inWindow) : Ordinary s (lapseLift due reason s) :=
  .ite (fun h => abortLift_ordinary reason (by rw [hdue h]; rfl)) fun _ => .refl s

theorem leaveWindow_ordinary {st : WeigherState} (hs : s.weigher.state.follows = true) (hst : st.follows = true) :
    Ordinary s (leaveWindow st s) := setWeigher_ordinary hs hst

theorem zeroLift_ordinary (hs : s.weigher.state.follows = true) : Ordinary s (zeroLift s) :=
  ((leaveWindow_ordinary (st := .above) hs rfl).trans (.of_same (by rfl))).trans (placeMessage_ordinary _ _)

/-- A pass is handed over as the Weigher enters HELD (R28, R30). -/
theorem heldPass_ordinary (weight : Int) (flags : QualityFlags) (samples stamp : Nat)
    (hs : s.weigher.state.follows = true) :
    Ordinary s (takePass weight flags samples stamp (leaveWindow .held s)) := by
  refine .of_pass rfl fun h => ?_
  obtain ⟨hmode, -, hres⟩ := (passLaw_follows hs).1 h
  exact (passLaw_held (s := takePass weight flags samples stamp (leaveWindow .held s)) rfl).2
    ⟨hmode, .inl ⟨rfl, hres⟩⟩

theorem completeLift_ordinary (hs : s.weigher.state.follows = true) : Ordinary s (completeLift s) :=
  .ite (fun _ => zeroLift_ordinary hs) fun _ =>
    .ite (fun _ => (leaveWindow_ordinary hs rfl).trans (tallyRequest_ordinary (f := .emptyLift) rfl fun h => h))
      fun _ => heldPass_ordinary _ _ _ _ hs

theorem contribute_ordinary (x : SampleSet) (s : State) : Ordinary s (contribute x s) := by
  unfold contribute
  split
  · exact .of_same rfl
  · exact .refl s

theorem entrySet_ordinary (x : SampleSet) (hs : s.weigher.state.follows = true) : Ordinary s (entrySet x s) := by
  refine .ite (fun _ => ?_) fun _ => setWeigher_ordinary hs rfl
  exact (setWeigher_ordinary (w := { s.weigher with state := .inWindow, acc := .entered x.theta }) hs rfl).trans
    (.ite (fun _ => abortLift_ordinary _ rfl) fun _ => contribute_ordinary x _)

theorem windowSet_ordinary (x : SampleSet) (hs : s.weigher.state.follows = true) : Ordinary s (windowSet x s) := by
  refine Ordinary.trans (t := { s with
    weigher := { s.weigher with acc := { s.weigher.acc with inputTimer := some 0 } } }) (.of_same (by rfl)) ?_
  exact .ite (fun _ => abortLift_ordinary _ hs) fun _ => .ite (fun _ => abortLift_ordinary _ hs) fun _ =>
    .ite (fun _ => .ite (fun _ => abortLift_ordinary _ hs) fun _ => completeLift_ordinary hs)
      fun _ => contribute_ordinary x _

theorem weigherSet_ordinary (x : SampleSet) (s : State) : Ordinary s (weigherSet x s) := by
  refine Ordinary.trans (t := { s with weigher := { s.weigher with lastBoom := some x.theta } }) (.of_same (by rfl)) ?_
  unfold weigherSet
  split
  · exact .refl _
  · exact .refl _
  · exact .refl _
  · next h => exact .ite (fun _ => .refl _) fun _ => entrySet_ordinary x (by simp [h, WeigherState.follows])
  · next h => exact windowSet_ordinary x (by simp [h, WeigherState.follows])
  · next h => exact .ite (fun _ => setWeigher_ordinary (by simp [h, WeigherState.follows]) rfl) fun _ => .refl _

theorem weigherBoom_ordinary (v : Int) (s : State) : Ordinary s (weigherBoom v s) := by
  unfold weigherBoom
  split
  · next h => exact setWeigher_ordinary (by simp [h.1, WeigherState.follows]) rfl
  · exact .of_same rfl

theorem skipNotice_ordinary (l : List Channel) (s : State) : Ordinary s (skipNotice l s) :=
  .ite (fun h => abortLift_ordinary _ (by rw [h.1]; rfl)) fun _ => .refl s

theorem takeResolution_of_held (h : s.weigher.state = .held) :
    takeResolution s = { s with weigher := { s.weigher with
      state := belowOrAbove s.weigher.lastBoom s.cal.active.thetaLo, acc := .cleared } } := by
  rw [takeResolution, if_pos h]

theorem takeResolution_of_not_held (h : s.weigher.state ≠ .held) : takeResolution s = s := by
  rw [takeResolution, if_neg h]

/-- A resolution that is under way is that of the pass in HELD, or of one that closing discarded (R92, R93). -/
theorem resolution_under_way (hres : s.mail.resolutions ≠ 0) (h : s.passLaw = true) :
    s.weigher.state = .held ∧ s.modeCtl.mode = .run ∧ s.pass.pending = none ∧ s.mail.resolutions = 1 ∨
    s.weigher.state = .off ∧ s.modeCtl.mode ≠ .run ∧ s.pass.pending = none ∧
      (s.modeCtl.mode = .closing ∨ s.modeCtl.mode = .standby) := by
  by_cases hheld : s.weigher.state = .held
  · obtain ⟨hmode, ⟨-, hzero⟩ | hone⟩ := (passLaw_held hheld).1 h
    · exact absurd hzero hres
    · exact .inl ⟨hheld, hmode, hone⟩
  · by_cases hoff : s.weigher.state = .off
    · obtain ⟨hmode, hnone, hwhere⟩ := (passLaw_off hoff).1 h
      exact .inr ⟨hoff, hmode, hnone, hwhere.resolve_left hres⟩
    · exact absurd ((passLaw_follows (by simp [WeigherState.follows, hoff, hheld])).1 h).2.2 hres

/-- A resolution report ends HELD; outside HELD one less is under way (R31, R93). -/
theorem resolutionReport_ordinary (hres : s.mail.resolutions ≠ 0) :
    Ordinary s (takeResolution { s with mail := { s.mail with resolutions := s.mail.resolutions - 1 } }) := by
  by_cases hheld : s.weigher.state = .held
  · rw [takeResolution_of_held (by exact hheld)]
    refine .of_pass rfl fun h => ?_
    obtain ⟨-, hmode, hnone, hone⟩ | ⟨hoff, -⟩ := resolution_under_way hres h
    · refine (passLaw_follows ?_).2 ⟨hmode, hnone, ?_⟩
      · exact belowOrAbove_follows _ _
      · exact congrArg (· - 1) hone
    · rw [hheld] at hoff; cases hoff
  · rw [takeResolution_of_not_held (by exact hheld)]
    refine .of_pass rfl fun h => ?_
    obtain ⟨hheld', -⟩ | ⟨hoff, hmode, hnone, hwhere⟩ := resolution_under_way hres h
    · exact absurd hheld' hheld
    · refine (passLaw_off ?_).2 ⟨hmode, hnone, .inr hwhere⟩
      exact hoff

theorem zeroKey_ordinary (s : State) : Ordinary s (zeroKey s) := by
  unfold zeroKey
  split <;> exact .of_same rfl

/-- The Weigher goes to OFF, at most with a change notice (R4). -/
theorem weigherOff_eq (s : State) :
    weigherOff s = { s with
      weigher := { s.weigher with state := .off, acc := .cleared }, display := (weigherOff s).display } := by
  unfold weigherOff
  split <;> rfl

/-- Outside RUN the Weigher stays OFF (R4). -/
theorem weigherOff_keeps (hmode : s.modeCtl.mode ≠ .run) : Keeps s (weigherOff s) := by
  rw [weigherOff_eq]
  refine .of_pass rfl fun h => ?_
  have hoff : s.weigher.state = .off := by
    simp only [State.passLaw, Bool.and_eq_true, offOutsideRun_iff] at h
    exact not_not.1 (h.1.not.1 hmode)
  exact (passLaw_off (by rfl)).2 ((passLaw_off hoff).1 h)

/-! ## The Calibration Unit -/

theorem failCapture_ordinary (reason : CalFailure) (s : State) : Ordinary s (failCapture reason s) := .of_same rfl

theorem activateWorking_ordinary (s : State) : Ordinary s (activateWorking s) := .of_same rfl

theorem answerSettings_ordinary (save : Bool) (a : SettingsAnswer) (n : Nat) (v : Int) (s : State) :
    Ordinary s (answerSettings save a n v s) := transmit_ordinary _ _ s

theorem captureSaveEnded_ordinary (written : Bool) (s : State) : Ordinary s (captureSaveEnded written s) :=
  .ite (fun _ => (activateWorking_ordinary s).trans (setCapture_ordinary _ _)) fun _ => .of_same rfl

/-- A request whose outcome the requester waits for. -/
theorem append_ordinary (kind : RecordKind) (body : List Word) (s : State) :
    Ordinary s { s with journal := (s.journal.append kind body).1 } := .of_journal (append_asked _ _ _) rfl

theorem startSaving_ordinary (s : State) : Ordinary s (startSaving s) := by
  unfold startSaving
  split
  · refine Ordinary.trans (t := setCapture .saving _) (.of_same (by rfl)) ((append_ordinary .machine _ _).trans
      (.ite (fun _ => .refl _) fun _ => captureSaveEnded_ordinary _ _))
  · exact .refl s

theorem settingsSaveEnded_ordinary (written : Bool) (s : State) : Ordinary s (settingsSaveEnded written s) := by
  have hanswered : Ordinary s (if written then answerSettings true .saved 0 0 (activateWorking s)
      else answerSettings true .saveFailed 0 0 { s with cal := { s.cal with save := none } }) :=
    .ite (fun _ => (activateWorking_ordinary s).trans (answerSettings_ordinary _ _ _ _ _))
      fun _ => Ordinary.trans (.of_same (by rfl)) (answerSettings_ordinary _ _ _ _ _)
  exact hanswered.trans (.ite (fun _ => startSaving_ordinary _) fun _ => .refl _)

theorem saveOutcome_ordinary (written : Bool) (s : State) : Ordinary s (saveOutcome written s) := by
  unfold saveOutcome
  split
  · exact settingsSaveEnded_ordinary written s
  · exact captureSaveEnded_ordinary written s
  · exact .refl s

theorem startSettingsSave_ordinary (s : State) : Ordinary s (startSettingsSave s) := by
  refine Ordinary.trans (t := { s with cal := { s.cal with save := some .settings } }) (.of_same (by rfl))
    ((append_ordinary .machine _ _).trans (.ite (fun _ => .refl _) fun _ => settingsSaveEnded_ordinary _ _))

theorem refuseSettings_ordinary (a : SettingsAction) (s : State) : Ordinary s (refuseSettings a s) := by
  refine Ordinary.trans (t := { s with cal := { s.cal with refusedSettings := inc s.cal.refusedSettings } }) (.of_same (by rfl)) ?_
  cases a <;> exact answerSettings_ordinary _ _ _ _ _

theorem geometryWritten_ordinary (s : State) : Ordinary s (geometryWritten s) := .ite (fun _ => (.of_same (by rfl))) fun _ => .of_same rfl

theorem writeSettings_ordinary (n : Nat) (v : Int) (s : State) : Ordinary s (writeSettings n v s) := by
  refine Ordinary.trans (t := { s with cal := { s.cal with working := some ((workingRecord s).write n v) } }) (.of_same (by rfl)) ?_
  exact Ordinary.trans (.ite (fun _ => geometryWritten_ordinary _) fun _ => .refl _) (answerSettings_ordinary _ _ _ _ _)

theorem takeSettings_ordinary (target : Nat) (a : SettingsAction) (s : State) : Ordinary s (takeSettings target a s) := by
  refine .ite (fun _ => .ite (fun _ => refuseSettings_ordinary a s) fun _ => ?_) fun _ => .refl s
  cases a with
  | write n v => exact writeSettings_ordinary n v s
  | save => exact startSettingsSave_ordinary s

theorem captureEnter_ordinary (s : State) : Ordinary s (captureEnter s) := by
  unfold captureEnter
  repeat' split
  all_goals exact .of_same rfl

theorem captureStep_ordinary (d : Int) (s : State) : Ordinary s (captureStep d s) :=
  .ite (fun _ => (.of_same (by rfl))) fun _ => .refl s

theorem abortCapture_ordinary (reason : AbortReason) (s : State) : Ordinary s (abortCapture reason s) := .of_same rfl

theorem lapseCapture_ordinary (s : State) : Ordinary s (lapseCapture s) :=
  .ite (fun _ => abortCapture_ordinary _ s) fun _ => .refl s

theorem spanCheck_ordinary (s : State) : Ordinary s (spanCheck s) := by
  unfold spanCheck
  split
  · split
    · exact (failCapture_ordinary _ s).trans (placeMessage_ordinary _ _)
    · exact .ite (fun _ => .refl s) fun _ => startSaving_ordinary s
  · exact .refl s

theorem endCapture_ordinary (s : State) : Ordinary s (endCapture s) := by
  unfold endCapture
  split
  · exact (failCapture_ordinary _ s).trans (placeMessage_ordinary _ _)
  · exact .ite (fun _ => Ordinary.trans (t := setCapture .check _) (.of_same (by rfl)) (spanCheck_ordinary _)) fun _ => .of_same rfl

theorem captureEntry_ordinary (x : SampleSet) (s : State) : Ordinary s (captureEntry x s) :=
  .ite (fun _ => (.of_same (by rfl))) fun _ => .ite (fun _ => abortCapture_ordinary _ s) fun _ =>
    .ite (fun _ => failCapture_ordinary _ s) fun _ => .of_same rfl

theorem captureWindowSet_ordinary (x : SampleSet) (s : State) : Ordinary s (captureWindowSet x s) := by
  refine Ordinary.trans (t := { s with cal := { s.cal with inputTimer := some 0 } }) (.of_same (by rfl)) ?_
  exact .ite (fun _ => abortCapture_ordinary _ _) fun _ => .ite (fun _ => abortCapture_ordinary _ _) fun _ =>
    .ite (fun _ => endCapture_ordinary _) fun _ => .ite (fun _ => failCapture_ordinary _ _) fun _ => .of_same rfl

theorem captureSet_ordinary (x : SampleSet) (s : State) : Ordinary s (captureSet x s) := by
  unfold captureSet
  split
  · exact .ite (fun _ => (.of_same (by rfl))) fun _ => .refl s
  · exact .ite (fun _ => .refl s) fun _ => captureEntry_ordinary x s
  · exact captureWindowSet_ordinary x s

theorem enterServiceCalibration_ordinary (s : State) : Ordinary s (enterServiceCalibration s) := .of_same rfl

theorem closeCapture_ordinary (s : State) : Ordinary s (closeCapture s) := .ite (fun _ => (.of_same (by rfl))) fun _ => .of_same rfl

/-! ## The Cycle Tracker -/

/-- The law of the unweighed cycles in plain figures (R157, R159). -/
theorem unweighedLaw_iff (f : ShiftFigures) :
    f.unweighedLaw = true ↔ f.unweighed ≤ f.cycles ∧ f.cycles ≤ 65535 := by
  rw [ShiftFigures.unweighedLaw, Bool.and_eq_true, decide_eq_true_eq, decide_eq_true_eq]; rfl

/-- A completed cycle counts among the unweighed ones only where it counts among the cycles (R158, R159). -/
theorem cycleComplete_unweighedLaw {f : ShiftFigures} (total : Nat) (weighed : Bool) (h : f.unweighedLaw = true) :
    (f.cycleComplete total weighed).unweighedLaw = true := by
  rw [unweighedLaw_iff] at h ⊢
  simp only [ShiftFigures.cycleComplete, inc, satAdd, limit16]
  cases weighed <;> simp only [if_true, Bool.false_eq_true, if_false] <;> omega

/-- A cycle weighed late leaves the unweighed ones (R159). -/
theorem weighedLate_unweighedLaw {f : ShiftFigures} (h : f.unweighedLaw = true) :
    f.weighedLate.unweighedLaw = true := by
  rw [unweighedLaw_iff] at h ⊢
  simp only [ShiftFigures.weighedLate, satSub]
  split <;> omega

theorem completeCycle_ordinary (noDrive noReverse : Bool) (s : State) :
    Ordinary s (completeCycle noDrive noReverse s) :=
  ((tallyRequest_ordinary (f := fun f => f.cycleComplete (s.cycle.completed noDrive noReverse (stampNow s)).total
      (s.cycle.completed noDrive noReverse (stampNow s)).flags.weighed) rfl (cycleComplete_unweighedLaw _ _)).trans
    (transmit_ordinary _ _ _)).trans (setCycle_ordinary _ _)

theorem testCompletion_ordinary (s : State) : Ordinary s (testCompletion s) :=
  .ite (fun _ => .ite (fun _ => completeCycle_ordinary _ _ s) fun _ => .ite (fun _ => .refl s) fun _ =>
    completeCycle_ordinary _ _ s) fun _ => .refl s

theorem dumpNow_ordinary (s : State) : Ordinary s (dumpNow s) := .of_same rfl

theorem redigNow_ordinary (s : State) : Ordinary s (redigNow s) := .of_same rfl

theorem boomPhase_ordinary (v : Int) (s : State) : Ordinary s (boomPhase v s) := by
  unfold boomPhase
  split
  · exact .ite (fun _ => (.of_same (by rfl))) fun _ => .refl s
  · exact .ite (fun _ => redigNow_ordinary s) fun _ => .ite (fun _ => dumpNow_ordinary s) fun _ => .refl s
  · exact .refl s
  · exact .ite (fun _ => (setCycle_ordinary _ s).trans (testCompletion_ordinary _)) fun _ =>
      .ite (fun _ => (completeCycle_ordinary _ _ s).trans (setCycle_ordinary _ _)) fun _ => .refl s

theorem cycleBoom_ordinary (v : Int) (s : State) : Ordinary s (cycleBoom v s) :=
  (setCycle_ordinary _ s).trans (.ite (fun _ => .refl _) fun _ =>
    Ordinary.trans (.ite (fun _ => raiseBoomBelow_ordinary _) fun _ => .refl _) (boomPhase_ordinary v _))

theorem cycleBucket_ordinary (b : Int) (s : State) : Ordinary s (cycleBucket b s) := by
  refine (setCycle_ordinary { s.cycle with lastBucket := some b } s).trans (.ite (fun _ => .refl _) fun _ => ?_)
  split
  · exact .refl _
  · exact .ite (fun _ => dumpNow_ordinary _) fun _ => .refl _
  · exact .ite (fun _ => setCycle_ordinary _ _) fun _ => .refl _
  · exact .ite (fun _ => setCycle_ordinary _ _) fun _ => .refl _

theorem cycleDrive_ordinary (d : Int) (s : State) : Ordinary s (cycleDrive d s) := by
  refine .ite (fun _ => .refl s) fun _ => ?_
  split
  · exact (setCycle_ordinary _ s).trans (testCompletion_ordinary _)
  all_goals exact .refl s

theorem takeCommitReport_ordinary (tag : Nat) (s : State) : Ordinary s (takeCommitReport tag s) := by
  refine .ite (fun _ => setCycle_ordinary _ s) fun _ => ?_
  split
  · next r _ =>
    refine .ite (fun _ => ?_) fun _ => .refl s
    exact Ordinary.trans (t := notice (setCycle { s.cycle with last := some r.markWeighed } s)) (.of_same (by rfl))
      (.ite (fun _ => tallyRequest_ordinary rfl weighedLate_unweighedLaw) fun _ => .refl _)
  · exact .refl s

/-! ## The Shift Clock -/

/-- An open shift without cycles has no unweighed ones. -/
theorem opened_unweighedLaw (n t : Nat) (b : Bool) : (ShiftFigures.opened n t b).unweighedLaw = true := rfl

theorem takeSnapshot_ordinary (s : State) : Ordinary s (takeSnapshot s) := requestAppend_ordinary _ _ s

theorem raiseShiftChange_keeps (s : State) : Keeps s (raiseShiftChange s) := by
  have hclosed := (shiftChangeClose_ordinary s).trans (requestAppend_ordinary .shiftClosed
    ((shiftChangeClose s).tally.body (stampNow (shiftChangeClose s))) (shiftChangeClose s))
  exact hclosed.toKeeps.trans
    ⟨rfl, rfl, .none, fun _ => rfl, .refl _, id, fun _ => opened_unweighedLaw _ _ _, id⟩

theorem changeFound_keeps (s : State) : Keeps s (changeFound s) :=
  .ite (fun _ => raiseShiftChange_keeps s) fun _ => .refl s

theorem correctOpenTime_ordinary (d : Int) (s : State) : Ordinary s (correctOpenTime d s) :=
  .ite (fun _ => .refl s) fun _ => .of_same rfl

theorem secondPasses_keeps (s : State) : Keeps s (secondPasses s) :=
  Keeps.trans (t := { s with clock := { s.clock with
    calendar := s.clock.calendar.nextSecond, secondPhase := 0,
    timeSet := if s.clock.calendar.isLast then false else s.clock.timeSet } }) (.of_same (by rfl))
    (.ite (fun _ => changeFound_keeps _) fun _ => .refl _)

theorem takeValidTime_keeps (c : Calendar) (s : State) : Keeps s (takeValidTime c s) := by
  have hstepped (b : Bool) : Keeps s (stepCalendar c b s) := .of_same rfl
  have hcorrected (b : Bool) (d : Int) :
      Keeps s (if s.clock.timeSet then stepCalendar c b s else correctOpenTime d (stepCalendar c b s)) :=
    .ite (fun _ => hstepped b) fun _ => (hstepped b).trans (correctOpenTime_ordinary d _).toKeeps
  exact (hcorrected (decide (2 < ((c.toSeconds : Int) - stampNow s).natAbs)) (c.toSeconds - stampNow s)).trans
    (.ite (fun _ => changeFound_keeps _) fun _ => .refl _)

theorem takeTime_keeps (c : Calendar) (s : State) : Keeps s (takeTime c s) :=
  .ite (fun _ => .ite (fun _ => takeValidTime_keeps c s) fun _ => (.of_same (by rfl))) fun _ => .refl s

theorem overdueTest_keeps (s : State) : Keeps s (overdueTest s) :=
  .ite (fun _ => changeFound_keeps s) fun _ => .refl s

/-! ## Dispatch -/

theorem deliverSet_ordinary (x : SampleSet) (s : State) : Ordinary s (deliverSet x s) := by
  unfold deliverSet
  split
  · exact weigherSet_ordinary x s
  · exact weigherSet_ordinary x s
  · exact weigherSet_ordinary x s
  · exact .ite (fun _ => captureSet_ordinary x s) fun _ => .refl s
  · exact .refl s
  · exact .refl s

theorem assembleSet_ordinary (s : State) : Ordinary s (assembleSet s) :=
  .ite (fun _ => Ordinary.trans (.of_same (by rfl)) (skipNotice_ordinary _ _)) fun _ =>
    .ite (fun _ => (.of_same (by rfl))) fun _ => Ordinary.trans (.of_same (by rfl)) (deliverSet_ordinary _ _)

theorem useSample_ordinary (ch : Channel) (id : SlotId) (s : State) : Ordinary s (useSample ch id s) := by
  refine .ite (fun _ => ?_) fun _ => .refl s
  cases ch with
  | head => exact assembleSet_ordinary s
  | boom => exact (weigherBoom_ordinary _ s).trans (cycleBoom_ordinary _ _)
  | bucket => exact cycleBucket_ordinary _ s
  | drive => exact cycleDrive_ordinary _ s
  | rod | pitch | time | truck => exact .refl s

theorem useNotice_ordinary (k : Kind) (d : List Word) (s : State) : Ordinary s (useNotice k d s) :=
  .ite (fun _ => depart_ordinary _ s) fun _ => announce_ordinary _ _ s

theorem useTime_keeps (id : SlotId) (d : List Word) (s : State) : Keeps s (useTime id d s) :=
  .ite (fun _ => takeTime_keeps _ s) fun _ => .refl s

/-- Every accepted telegram but a TIME telegram brings about ordinary work. -/
theorem useAccepted_ordinary {ch : Channel} (hch : ch ≠ .time) (id : SlotId) (t : RxTelegram) (s : State) :
    Ordinary s (useAccepted ch id t s) := by
  cases ch with
  | time => exact absurd rfl hch
  | truck => exact useNotice_ordinary _ _ s
  | head | rod | boom | bucket | pitch | drive => exact useSample_ordinary _ id s

theorem takeJournalRead_ordinary (target seq : Nat) (s : State) : Ordinary s (takeJournalRead target seq s) :=
  .ite (fun _ => .ite (fun _ => Ordinary.of_journal ⟨rfl, rfl, id, id, id⟩ rfl) fun _ => Ordinary.of_journal (requestRead_asked _ seq) rfl) fun _ => .refl s

theorem takeByOwner_ordinary (t : RxTelegram) (s : State) : Ordinary s (takeByOwner t s) := by
  unfold takeByOwner
  split
  · exact takeSettings_ordinary _ _ s
  · exact takeJournalRead_ordinary _ _ s
  · exact .refl s

/-- Every telegram but a TIME telegram is taken by ordinary work. -/
theorem takeTelegram_ordinary {t : RxTelegram} (ht : t.kind.channel ≠ some .time) (s : State) :
    Ordinary s (takeTelegram t s) := by
  unfold takeTelegram
  split
  · next ch hch =>
    unfold takeChannelTelegram
    have htime : ch ≠ .time := fun h => ht (h ▸ hch)
    refine (setProducers_ordinary ((s.prod.hear t.sender).take ch t.sender t.seq t.data).1 s).trans ?_
    dsimp only
    split
    · exact useAccepted_ordinary htime _ t _
    · exact .refl _
  · exact (setProducers_ordinary _ s).trans (takeByOwner_ordinary t _)

theorem takeTelegram_keeps (t : RxTelegram) (s : State) : Keeps s (takeTelegram t s) := by
  by_cases ht : t.kind.channel = some .time
  · unfold takeTelegram takeChannelTelegram
    simp only [ht]
    refine (setProducers_ordinary ((s.prod.hear t.sender).take .time t.sender t.seq t.data).1 s).toKeeps.trans ?_
    split
    · exact useTime_keeps _ _ _
    · exact .refl _
  · exact (takeTelegram_ordinary ht s).toKeeps

theorem silenceSlot_ordinary (ch : Channel) (id : SlotId) (s : State) : Ordinary s (silenceSlot ch id s) :=
  .ite (fun _ => setProducers_ordinary _ s) fun _ => .refl s

theorem staleSlot_ordinary (ch : Channel) (id : SlotId) (s : State) : Ordinary s (staleSlot ch id s) :=
  .ite (fun _ => setProducers_ordinary _ s) fun _ => .refl s

/-! ## The Display Controller -/

theorem beginFrame_ordinary (s : State) : Ordinary s (beginFrame s) := .of_same rfl

theorem latchFrame_ordinary (s : State) : Ordinary s (latchFrame s) := .of_same rfl

theorem sendBlank_ordinary (s : State) : Ordinary s (sendBlank s) := .of_same rfl

theorem stopHold_ordinary (s : State) : Ordinary s (stopHold s) := .of_same rfl

theorem moveItem_ordinary (f : Nat → Nat) (s : State) : Ordinary s (moveItem f s) := .ite (fun _ => (.of_same (by rfl))) fun _ => .refl s

theorem runKey_ordinary (k : Key) (s : State) : Ordinary s (runKey k s) := by
  cases k with
  | page => exact .of_same rfl
  | zero => exact zeroKey_ordinary s
  | next => exact nextKey_ordinary s
  | delete => exact .of_same rfl
  | material => exact materialKey_ordinary s
  | up => exact moveItem_ordinary _ s
  | down => exact moveItem_ordinary _ s
  | enter => exact .ite (fun _ => clearMessage_ordinary s) fun _ => .refl s

theorem serviceKey_ordinary (k : Key) (s : State) : Ordinary s (serviceKey k s) := by
  cases k with
  | page => exact .of_same rfl
  | material => exact materialKey_ordinary s
  | up => exact captureStep_ordinary _ s
  | down => exact captureStep_ordinary _ s
  | enter => exact captureEnter_ordinary s
  | zero | next | delete => exact .refl s

theorem keyAction_ordinary (k : Key) (s : State) : Ordinary s (keyAction k s) := by
  unfold keyAction
  split
  · exact runKey_ordinary k s
  · exact serviceKey_ordinary k s
  all_goals exact .refl s

theorem scanKey_ordinary (levels : BitVec 8) (s : State) (k : Key) : Ordinary s (scanKey levels s k) := by
  refine Ordinary.trans (t := { s with display := { s.display with
    keys := s.display.keys.set (keyIdx k) ((s.display.key k).scan (levels.getLsbD (keyIdx k).val)) } }) (.of_same (by rfl)) ?_
  exact .ite (fun _ => .refl _) fun _ => .ite (fun _ => keyAction_ordinary k _) fun _ =>
    .ite (fun _ => stopHold_ordinary _) fun _ => .refl _

theorem readKeys_ordinary (levels : BitVec 8) (s : State) : Ordinary s (readKeys levels s) := by
  have hscans (ks : List Key) (u : State) : Ordinary u (ks.foldl (scanKey levels) u) := by
    induction ks generalizing u with
    | nil => exact .refl u
    | cons k ks ih => exact (scanKey_ordinary levels u k).trans (ih _)
  exact Ordinary.trans (.of_same (by rfl)) (hscans allKeys _)

theorem dueFrameFirst_ordinary (s : State) : Ordinary s (dueFrameFirst s) :=
  .ite (fun _ => beginFrame_ordinary s) fun _ => .refl s

theorem takeKeyRead_ordinary (levels : BitVec 8) (s : State) : Ordinary s (takeKeyRead levels s) :=
  .ite (fun _ => readKeys_ordinary levels s) fun _ => .of_same rfl

theorem keyMarkPasses_ordinary (levels : BitVec 8) (s : State) : Ordinary s (keyMarkPasses levels s) := by
  refine Ordinary.trans (t := { s with
    pins := { s.pins with keyLevels := levels }, display := { s.display with keyMark := some 0 } }) (.of_same (by rfl)) ?_
  exact .ite (fun _ => sendBlank_ordinary _) fun _ => (dueFrameFirst_ordinary _).trans (takeKeyRead_ordinary levels _)

theorem waitingRead_ordinary (s : State) : Ordinary s (waitingRead s) :=
  .ite (fun _ => readKeys_ordinary _ s) fun _ => .refl s

/-! ## The journal's answers -/

theorem transmitAll_ordinary (k : TxKind) (l : List (List Word)) (s : State) :
    Ordinary s (l.foldl (fun t d => transmit k d t) s) := by
  induction l generalizing s with
  | nil => exact .refl s
  | cons d l ih => exact (transmit_ordinary k d s).trans (ih _)

/-- The array takes its next work (R192). -/
theorem pump_ordinary (s : State) : Ordinary s { s with journal := s.journal.pump } := .of_journal (pump_asked _) rfl

/-- A read served leaves the journal to its next work (R192). -/
theorem readDone_asked (j : Journal) : j.Asked (Journal.pump { j with serving := none }) :=
  Journal.Asked.trans (k := { j with serving := none }) ⟨rfl, rfl, id, id, id⟩ (pump_asked _)

theorem serveRead_ordinary (seq : Nat) (s : State) : Ordinary s (serveRead seq s) :=
  (transmitAll_ordinary .journalRecord (s.journal.answer seq) s).trans
    (.of_journal (readDone_asked _) rfl)

end Sys2Proof.Machine
end

section
/-! PROOFS. How the array's work ends (R186, R191, R195, R196): what may become of the words, and what the ends keep of
the queues. -/

namespace Sys2Proof.Machine

/-! ## The words of a run (R186) -/

/-- A word program clears bits only. -/
theorem onlyFalls_and (v w : Word) : onlyFalls v (v &&& w) = true := by
  simp only [onlyFalls, beq_iff_eq]
  ext i hi
  simp +contextual

theorem onlyFalls_refl (v : Word) : onlyFalls v v = true := by simp [onlyFalls]

theorem onlyFalls_trans {u v w : Word} (h : onlyFalls u v = true) (h' : onlyFalls v w = true) :
    onlyFalls u w = true := by
  simp only [onlyFalls, beq_iff_eq] at h h' ⊢
  rw [← h', BitVec.and_assoc, h]

/-- What word programs over a run of addresses may leave of an array: words outside the run are as before, and every
word only loses bits. -/
structure Store.Programmed (m : List StoreCell) (a n : Nat) (m' : List StoreCell) : Prop where
  form : Store.wf m → Store.wf m'
  outside : Store.wf m → ∀ b, b < a ∨ a + n ≤ b → Store.read m' b = Store.read m b
  falls : Store.wf m → ∀ b, onlyFalls (Store.read m b) (Store.read m' b) = true

variable {m m' : List StoreCell} {a n : Nat}

theorem Store.Programmed.refl (m : List StoreCell) (a n : Nat) : Store.Programmed m a n m where
  form := fun h => h
  outside := fun _ _ _ => rfl
  falls := fun _ _ => onlyFalls_refl _

/-- One word program that clears some bits of the first word. -/
theorem Store.programmed_write (m : List StoreCell) (a n : Nat) (w : Word) :
    Store.Programmed m a (n + 1) (Store.write m a (Store.read m a &&& w)) where
  form := Store.wf_write
  outside := fun h b hb => by
    by_cases ha : a < storeWords
    · rw [Store.read_write h ha, if_neg (by omega)]
    · rw [Store.write, if_neg ha]
  falls := fun h b => by
    by_cases ha : a < storeWords
    · rw [Store.read_write h ha]
      split
      · next hb => rw [hb]; exact onlyFalls_and _ _
      · exact onlyFalls_refl _
    · rw [Store.write, if_neg ha]; exact onlyFalls_refl _

/-- A word program, and then word programs over the words behind it. -/
theorem Store.Programmed.cons {w : Word}
    (h : Store.Programmed (Store.write m a (Store.read m a &&& w)) (a + 1) n m') : Store.Programmed m a (n + 1) m' := by
  have hfirst := Store.programmed_write m a n w
  refine ⟨h.form ∘ hfirst.form, fun hm b hb => ?_, fun hm b => ?_⟩
  · rw [h.outside (hfirst.form hm) b (by omega), hfirst.outside hm b hb]
  · exact onlyFalls_trans (hfirst.falls hm b) (h.falls (hfirst.form hm) b)

theorem Store.programmed_program (m : List StoreCell) (a : Nat) (ws : List Word) :
    Store.Programmed m a ws.length (Store.program m a ws).1 := by
  induction ws generalizing m a with
  | nil => exact .refl m a _
  | cons w ws ih =>
    simp only [Store.program]
    split
    · exact (ih _ _).cons
    · exact Store.programmed_write m a _ w

theorem Store.programmed_programPart (m : List StoreCell) (a : Nat) (ws : List Word) (k : Nat) (left : Word) :
    Store.Programmed m a ws.length (Store.programPart m a ws k left) := by
  induction ws generalizing m a k with
  | nil => cases k <;> exact .refl m a _
  | cons w ws ih =>
    cases k with
    | zero => exact Store.programmed_write m a _ _
    | succ k => exact (ih _ _ _).cons

/-- Words outside a sector are not in reach of its erase, whole or in part (R186, R195). -/
theorem Store.read_filter_of_kept {p : StoreCell → Bool} {b : Nat} (hp : ∀ c ∈ m, c.1 = b → p c = true) :
    Store.read (m.filter p) b = Store.read m b := by
  induction m with
  | nil => rfl
  | cons c m ih =>
    obtain ⟨d, v⟩ := c
    have hrest := ih fun c hc => hp c (List.mem_cons_of_mem _ hc)
    rw [List.filter_cons]
    split
    · rw [Store.read, Store.read, hrest]
    · next hdrop =>
      have hne : b ≠ d := fun h => hdrop (hp (d, v) (by simp) h.symm)
      rw [Store.read, if_neg hne, hrest]

theorem Store.read_setBits_outside {k e b : Nat} (hb : b / sectorWords ≠ e) :
    Store.read (Store.setBits k m e) b = Store.read m b := by
  induction m with
  | nil => rfl
  | cons c m ih =>
    obtain ⟨d, v⟩ := c
    have hcons : Store.setBits k ((d, v) :: m) e =
        (if d / sectorWords = e then
          if v ||| Config.bitsErased k d = erasedWord then [] else [(d, v ||| Config.bitsErased k d)]
        else [(d, v)]) ++ Store.setBits k m e := by
      unfold Store.setBits
      rw [List.filterMap_cons]
      dsimp only
      split_ifs <;> rfl
    rw [hcons, Store.read]
    split_ifs with hd hv hbd hbd
    · rw [hbd] at hb; exact absurd hd hb
    · exact ih
    · rw [hbd] at hb; exact absurd hd hb
    · simp [Store.read, hbd, ih]
    · simp [Store.read, *]
    · simp [Store.read, *]

theorem Store.read_erasePart_outside {k e b : Nat} (hb : b / sectorWords ≠ e) :
    Store.read (Store.erasePart k m e) b = Store.read m b := by
  unfold Store.erasePart
  split
  · refine Store.read_filter_of_kept fun c _ hc => ?_
    simp [hc, hb]
  · exact Store.read_setBits_outside hb

/-! ## The queues through the journal's own operations -/

/-- An operation of the journal keeps the bounds of its queues (R190, R201). -/
structure Journal.Bounded (j k : Journal) : Prop where
  appends : k.appendQueue.length ≤ j.appendQueue.length
  reads : k.readQueue.length ≤ j.readQueue.length

theorem Journal.Bounded.of_same {j k : Journal} (h : (k.appendQueue, k.readQueue) = (j.appendQueue, j.readQueue)) :
    j.Bounded k := by
  simp only [Prod.mk.injEq] at h
  obtain ⟨happends, hreads⟩ := h
  exact ⟨by rw [happends], by rw [hreads]⟩

theorem Journal.Bounded.refl (j : Journal) : j.Bounded j := .of_same rfl

theorem Journal.Bounded.trans {j k l : Journal} (h : j.Bounded k) (h' : k.Bounded l) : j.Bounded l where
  appends := h'.appends.trans h.appends
  reads := h'.reads.trans h.reads

theorem judge_bounded (j : Journal) : j.Bounded j.judge := by
  unfold Journal.judge
  repeat' split
  · exact .of_same rfl
  · exact ⟨Nat.zero_le _, le_rfl⟩
  · exact .of_same rfl
  · exact .of_same rfl

theorem pump_bounded (j : Journal) : j.Bounded j.pump where
  appends := (pump_appendQueue_length j).le
  reads := by
    unfold Journal.pump
    repeat' split
    all_goals simp_all [beginProgram_keeps]

theorem eraseAheadNoActive_bounded (j : Journal) : j.Bounded j.eraseAheadNoActive := by
  unfold Journal.eraseAheadNoActive
  split
  · split <;> exact .of_same rfl
  · exact judge_bounded j

theorem beginEraseAhead_bounded (j : Journal) : j.Bounded j.beginEraseAhead := by
  have hmark : j.Bounded { j with mark := true, deferred := false } := .of_same rfl
  unfold Journal.beginEraseAhead
  dsimp only
  split
  · exact .of_same rfl
  · split
    · exact hmark.trans (eraseAheadNoActive_bounded _)
    · split
      · exact hmark.trans (judge_bounded _)
      · split
        · exact hmark
        · split
          · split <;> exact .of_same rfl
          · exact Journal.Bounded.trans (.of_same (by rfl)) (eraseAheadNoActive_bounded _)
        all_goals exact hmark.trans (judge_bounded _)

theorem afterRestore_bounded (j : Journal) : j.Bounded j.afterRestore := by
  unfold Journal.afterRestore
  split
  · exact (beginEraseAhead_bounded j).trans (pump_bounded _)
  · exact .refl j

theorem dequeueJob_bounded (j : Journal) (job : ProgramJob) : j.Bounded (j.dequeueJob job) := by
  unfold Journal.dequeueJob
  split
  · exact .of_same rfl
  · exact ⟨by simp, le_rfl⟩

theorem written_bounded (j : Journal) (job : ProgramJob) (store : List StoreCell) :
    j.Bounded (j.written job store) := by
  have hcarried (k : Journal) (hk : j.Bounded k) :
      j.Bounded (if 768 ≤ k.fill ∧ k.mark = false then k.beginEraseAhead else k) := by
    split
    · exact hk.trans (beginEraseAhead_bounded k)
    · exact hk
  refine hcarried _ ?_
  dsimp only
  split <;> exact .of_same rfl

theorem failedProgram_bounded (j : Journal) (job : ProgramJob) (store : List StoreCell) :
    j.Bounded (j.failedProgram job store) :=
  Journal.Bounded.trans (k := { (j.setSector job.sector .faulted).programEnded with
      store := store, job := none, programFailures := inc j.programFailures, target := none }) (.of_same rfl)
    (((judge_bounded _).trans (beginEraseAhead_bounded _)).trans (pump_bounded _))

theorem erased_bounded (j : Journal) (n : Nat) : j.Bounded (j.erased n) := by
  unfold Journal.erased
  refine Journal.Bounded.trans ?_ (pump_bounded _)
  dsimp only
  split
  · exact Journal.Bounded.trans (.of_same (by rfl)) (beginEraseAhead_bounded _)
  · exact .of_same rfl

theorem failedErase_bounded (j : Journal) (n : Nat) (store : List StoreCell) :
    j.Bounded (j.failedErase n store) := by
  unfold Journal.failedErase
  refine Journal.Bounded.trans ?_ (pump_bounded _)
  dsimp only
  split
  · exact (Journal.Bounded.trans (.of_same (by rfl)) (judge_bounded _)).trans (beginEraseAhead_bounded _)
  · exact Journal.Bounded.trans (.of_same (by rfl)) (judge_bounded _)

/-! ## The array through the journal's own operations -/

theorem written_store (j : Journal) (job : ProgramJob) (store : List StoreCell) :
    (j.written job store).store = store := by
  unfold Journal.written
  dsimp only
  repeat' split
  all_goals simp [beginEraseAhead_store, Journal.enterErasing, Journal.setSector]

theorem failedProgram_store (j : Journal) (job : ProgramJob) (store : List StoreCell) :
    (j.failedProgram job store).store = store := by
  rw [Journal.failedProgram, pump_store, beginEraseAhead_store, judge_store]

theorem erased_store (j : Journal) (n : Nat) : (j.erased n).store = Store.eraseSector j.store n := by
  rw [Journal.erased, pump_store]
  dsimp only
  split
  · rw [beginEraseAhead_store]
  · rfl

theorem failedErase_store (j : Journal) (n : Nat) (store : List StoreCell) :
    (j.failedErase n store).store = store := by
  rw [Journal.failedErase, pump_store]
  dsimp only
  split
  · rw [beginEraseAhead_store, judge_store]
  · rw [judge_store]

/-- What may become of the array while a command runs: the record being programmed may be programmed, and the sector to
be erased may be erased, each in part. -/
structure Journal.Worked (j k : Journal) : Prop where
  form : Store.wf j.store → Store.wf k.store
  outside : Store.wf j.store → ∀ b, j.programs b = false → j.erases b = false →
    Store.read k.store b = Store.read j.store b
  falls : Store.wf j.store → ∀ b, j.erases b = false → onlyFalls (Store.read j.store b) (Store.read k.store b) = true

variable {j k : Journal}

theorem Journal.Worked.of_store (h : k.store = j.store) : j.Worked k where
  form := fun hw => h ▸ hw
  outside := fun _ _ _ _ => by rw [h]
  falls := fun _ _ _ => h ▸ onlyFalls_refl _

/-- Word programs over the words of the record being programmed. -/
theorem Journal.Worked.of_programmed {job : ProgramJob} (hjob : j.job = some job)
    (h : Store.Programmed j.store job.start job.words.length k.store) : j.Worked k where
  form := h.form
  outside := fun hw b hb _ => by
    refine h.outside hw b ?_
    simp only [Journal.programs, hjob, Option.any_some, Bool.and_eq_false_iff, decide_eq_false_iff_not] at hb
    unfold ProgramJob.start
    omega
  falls := fun hw b _ => h.falls hw b

/-- An erase, whole or in part, of the sector to be erased. -/
theorem Journal.Worked.of_erase {n : Nat} (hn : j.eraseSector = some n) (hform : Store.wf j.store → Store.wf k.store)
    (h : ∀ b, b / sectorWords ≠ n → Store.read k.store b = Store.read j.store b) : j.Worked k := by
  have hout (b : Nat) (hb : j.erases b = false) : Store.read k.store b = Store.read j.store b := by
    refine h b fun hbn => ?_
    simp [Journal.erases, hn, hbn] at hb
  exact ⟨hform, fun _ b _ => hout b, fun _ b hb => hout b hb ▸ onlyFalls_refl _⟩

/-! ## The ends of array work -/

/-- The four ends of array work (R191, R195, R196), each with the array as it leaves it. -/
inductive Journal.WorkEnds (j : Journal) : Journal → Prop where
  | written {job : ProgramJob} {store : List StoreCell} (hjob : j.job = some job)
      (hstore : Store.Programmed j.store job.start job.words.length store) :
      j.WorkEnds ((j.dequeueJob job).written job store)
  | failed {job : ProgramJob} {store : List StoreCell} (hjob : j.job = some job)
      (hstore : Store.Programmed j.store job.start job.words.length store) :
      j.WorkEnds (j.failedProgram job store)
  | erased {n : Nat} (hn : j.eraseSector = some n) : j.WorkEnds (j.erased n)
  | eraseFailed {n : Nat} (hn : j.eraseSector = some n) (free : Nat) :
      j.WorkEnds (j.failedErase n (Store.erasePart free j.store n))

theorem Journal.WorkEnds.bounded (h : j.WorkEnds k) : j.Bounded k := by
  cases h with
  | written => exact (dequeueJob_bounded j _).trans (written_bounded _ _ _)
  | failed => exact failedProgram_bounded j _ _
  | erased => exact erased_bounded j _
  | eraseFailed => exact failedErase_bounded j _ _

theorem Journal.WorkEnds.worked (h : j.WorkEnds k) : j.Worked k := by
  cases h with
  | written hjob hstore => exact .of_programmed hjob (by rwa [written_store])
  | failed hjob hstore => exact .of_programmed hjob (by rwa [failedProgram_store])
  | erased hn =>
    refine .of_erase hn (fun hw => ?_) fun b hb => ?_
    · rw [erased_store]; exact Store.wf_eraseSector hw
    · rw [erased_store, Store.read_eraseSector, if_neg hb]
  | eraseFailed hn free =>
    refine .of_erase hn (fun hw => ?_) fun b hb => ?_
    · rw [failedErase_store]; exact Store.wf_erasePart hw
    · rw [failedErase_store, Store.read_erasePart_outside hb]

/-- A loss of power cuts a program and an erase where they stand (R202, R226). -/
theorem cut_worked (j : Journal) (free : Nat) : j.Worked (j.cut free) := by
  have hprogrammed (job : ProgramJob) :
      Store.Programmed j.store job.start job.words.length (job.cut free j.store) :=
    Store.programmed_programPart _ _ _ _ _
  have hcut : ∀ m1, j.Worked { j with store := m1 } → ∀ e, j.eraseSector = some e →
      j.Worked { j with store := Store.erasePart free m1 e } := fun m1 h1 e he => by
    have hout (b : Nat) (hb : j.erases b = false) : Store.read (Store.erasePart free m1 e) b = Store.read m1 b := by
      refine Store.read_erasePart_outside fun hbe => ?_
      simp [Journal.erases, he, hbe] at hb
    refine ⟨fun hw => Store.wf_erasePart (h1.form hw), fun hw b hp hb => ?_, fun hw b hb => ?_⟩
    · exact (hout b hb).trans (h1.outside hw b hp hb)
    · dsimp only
      rw [hout b hb]
      exact h1.falls hw b hb
  have hjob : j.Worked { j with store := match j.job with
      | some job => job.cut free j.store
      | none => j.store } := by
    split
    · next job h => exact .of_programmed h (hprogrammed job)
    · exact .of_store rfl
  suffices h : j.Worked { j with store := (j.cut free).store } from ⟨h.form, h.outside, h.falls⟩
  unfold Journal.cut
  dsimp only
  split
  · next e he =>
    split
    · exact hcut _ hjob e he
    · exact hjob
  · exact hjob

end Sys2Proof.Machine
end

section
/-! PROOFS. What a command does, in a few sorts: most are ordinary operations; the others start the part, change its
mode, move the line or end work of the array. The laws that every step keeps are proved once for each sort. -/

namespace Sys2Proof.Machine

variable {c : Instr} {s t u v : State}

/-! ## The sorts of commands -/

/-- A Mode Controller whose mode and straps are another's. -/
structure ModeCtl.Agrees (m n : ModeCtl) : Prop where
  mode : n.mode = m.mode
  station : n.station = m.station
  rate : n.rate = m.rate
  listenOnly : n.listenOnly = m.listenOnly

/-- What the commands do at whose end closing is not looked at. -/
inductive Act (c : Instr) (s : State) : State → Prop where
  | ordinary {t : State} (h : Ordinary s t) : Act c s t
  | release (straps : Straps) (hc : isReset c = true) (hb : beginsStart c s = true) : Act c s (releaseReset straps s)
  | hold (hc : c = .resetLineLow) : Act c s (holdReset s)
  | edge {p : Pins} {m : ModeCtl} (h : s.modeCtl.Agrees m) : Act c s { s with pins := p, modeCtl := m }
  | join (h : s.modeCtl.mode = .start) : Act c s (enterJoin (startFrame s))
  | restart (straps : Straps) (h : s.modeCtl.mode = .standby) (hb : beginsStart c s = true) :
      Act c s (startPart straps s)
  | access {a : Access} (n : Nat) (hs : s.line.access ≠ .silent) (hn : s.line.access ≠ .send) (ha : a ≠ .send) :
      Act c s { s with line := { s.line with access := a, slotCount := n } }
  | slot (h : s.line.access = .defer) : Act c s (slotEnds s)
  | beat (h : s.line.heartbeat.isSome = true) : Act c s (beat s)
  | second : Act c s (secondPasses s)
  | lockout : Act c s { s with clock := { s.clock with lockout := none } }

/-- What the commands do at whose end closing may be over (R224). -/
inductive CheckedAct (c : Instr) (s : State) : State → Prop where
  | nothing : CheckedAct c s s
  | level {p : Pins} {m : ModeCtl} (h : s.modeCtl.Agrees m) : CheckedAct c s { s with pins := p, modeCtl := m }
  | close {p : Pins} {m : ModeCtl} (h : s.modeCtl.Agrees m) (hm : m.mode = .run ∨ m.mode = .service) :
      CheckedAct c s (enterClosing { s with pins := p, modeCtl := m })
  | start (straps : Straps) {p : Pins} {m : ModeCtl} (h : s.modeCtl.mode = .standby) (hb : beginsStart c s = true) :
      CheckedAct c s (startPart straps { s with pins := p, modeCtl := m })
  | endJoin (h : s.modeCtl.mode = .join) : CheckedAct c s (endJoin s)
  | receive (chars : List WireChar) : CheckedAct c s (receive chars s)
  | dispatch {r : RxTelegram} {rest : List RxTelegram} (h : s.line.inbox = r :: rest) :
      CheckedAct c s (takeTelegram r { s with line := { s.line with inbox := rest } })
  | sent (h : s.line.access = .send) : CheckedAct c s (transmissionDone s)
  | collided (h : s.line.access = .send) : CheckedAct c s (collide s)
  | work {k : Journal} {t : State} (hk : s.journal.WorkEnds k) (h : Ordinary { s with journal := k } t) :
      CheckedAct c s t

/-- What a command does, and the look at closing where it takes one. -/
def Does (c : Instr) (s t : State) : Prop := Act c s t ∨ ∃ v, CheckedAct c s v ∧ t = closingCheck v

theorem Does.nothing : Does c s s := .inl (.ordinary (.refl s))

/-- A command under a condition, which else does nothing. -/
theorem Does.ite {p : Prop} [Decidable p] {f : State} (h : p → Does c s f) : Does c s (if p then f else s) := by
  split
  · next hp => exact h hp
  · exact .nothing

/-- A command that the reset line holds back does nothing, and else what it does while powered. -/
theorem Does.of_powered {f : State → State} (h : whilePowered s f = .next t)
    (hf : s.pins.resetLow = false → Does c s (f s)) : Does c s t := by
  rcases whilePowered_next h with ⟨hp, rfl⟩ | ⟨hp, rfl⟩
  · exact .nothing
  · exact hf hp

/-! ## Each command's sort -/

theorem CheckedAct.does (h : CheckedAct c s v) : Does c s (closingCheck v) := .inr ⟨v, h, rfl⟩

theorem Ordinary.does (h : Ordinary s t) : Does c s t := .inl (.ordinary h)

/-- The journal changed through `withJournal` is ordinary but for that change. -/
theorem withJournal_ordinary (f : Journal → Journal) (s : State) :
    Ordinary { s with journal := f s.journal } (withJournal f s) := by
  unfold withJournal
  dsimp only
  have hnotice : Ordinary { s with journal := f s.journal }
      (if (f s.journal).jstate = s.journal.jstate then { s with journal := f s.journal }
        else notice { s with journal := f s.journal }) := .ite (fun _ => .refl _) fun _ => notice_ordinary _
  exact .ite (fun _ => hnotice.trans (saveOutcome_ordinary _ _)) fun _ => hnotice

theorem useFree_ordinary (s : State) : Ordinary s (useFree s) := .of_same rfl

/-- A record written leaves the journal as its end does, and is ordinary beyond (R191). -/
theorem recordWritten_checked {job : ProgramJob} {store : List StoreCell} (hjob : s.journal.job = some job)
    (hstore : Store.Programmed s.journal.store job.start job.words.length store) :
    CheckedAct c s (recordWritten job store s) := by
  refine .work (.written hjob hstore) ?_
  have hwritten := withJournal_ordinary (fun j => j.written job store) { s with journal := s.journal.dequeueJob job }
  unfold recordWritten
  dsimp only
  split
  · exact (hwritten.trans (saveOutcome_ordinary _ _)).trans (pump_ordinary _)
  · exact hwritten.trans (pump_ordinary _)

theorem does_journalRecordWritten (h : execJournalRecordWritten s = .next t) : Does c s t := by
  refine .of_powered h fun _ => ?_
  split
  · exact .nothing
  · next job hjob =>
    refine CheckedAct.does ?_
    have hstore := Store.programmed_program s.journal.store job.start job.words
    split
    · exact recordWritten_checked hjob hstore
    · exact .work (.failed hjob hstore) (withJournal_ordinary (fun j => j.failedProgram job _) s)

theorem does_programFailure (h : execProgramFailure s = .next t) : Does c s t := by
  refine .of_powered h fun _ => ?_
  split
  · next job hjob =>
    refine CheckedAct.does ?_
    split
    · exact recordWritten_checked hjob (.refl _ _ _)
    · exact .work (.failed hjob (Store.programmed_programPart _ _ _ _ _))
        ((withJournal_ordinary (fun j => j.failedProgram job (job.fail s.freeCount j.store)) s).trans
          (useFree_ordinary _))
  · exact .nothing

/-- An erase in progress is the pending one. -/
theorem eraseSector_of_erasingNow {j : Journal} {n : Nat} (h : j.erasingNow = some n) : j.eraseSector = some n := by
  unfold Journal.erasingNow at h
  split at h
  · exact h
  · cases h

theorem does_eraseDone (h : execEraseDone s = .next t) : Does c s t := by
  refine .of_powered h fun _ => ?_
  split
  · next n hn => exact CheckedAct.does (.work (.erased (eraseSector_of_erasingNow hn)) (withJournal_ordinary (fun j => j.erased n) s))
  · exact .nothing

theorem does_eraseFailed (h : execEraseFailed s = .next t) : Does c s t := by
  refine .of_powered h fun _ => ?_
  split
  · next n hn =>
    have he := eraseSector_of_erasingNow hn
    refine CheckedAct.does ?_
    split
    · exact .work (.erased he) (withJournal_ordinary (fun j => j.erased n) s)
    · exact .work (.eraseFailed he s.freeCount)
        ((withJournal_ordinary (fun j => j.failedErase n (Store.erasePart s.freeCount j.store n)) s).trans
          (useFree_ordinary _))
  · exact .nothing

theorem does_dispatch (h : execDispatch s = .next t) : Does c s t := by
  refine .of_powered h fun _ => CheckedAct.does ?_
  unfold dispatchOldest
  split
  · exact .nothing
  · next hr => exact .dispatch hr

theorem keyTurnedOff_checked {p : Pins} {m : ModeCtl} (h : s.modeCtl.Agrees m) :
    CheckedAct c s (keyTurnedOff { s with pins := p, modeCtl := m }) := by
  unfold keyTurnedOff
  cases hm : m.mode with
  | run => exact .close h (.inl hm)
  | service => exact .close h (.inr hm)
  | closing => exact .level ⟨h.mode, h.station, h.rate, h.listenOnly⟩
  | start | join | standby => exact .level h

theorem keyTurnedOn_checked {straps straps' : Straps} {p : Pins} {m : ModeCtl} (hc : c = .keySwitchLevelChange true straps')
    (hon : s.modeCtl.keyOn = false) (hpow : s.pins.resetLow = false) (h : s.modeCtl.Agrees m) :
    CheckedAct c s (keyTurnedOn straps { s with pins := p, modeCtl := m }) := by
  unfold keyTurnedOn
  cases hm : m.mode with
  | closing => exact .level ⟨h.mode, h.station, h.rate, h.listenOnly⟩
  | standby =>
    have hs : s.modeCtl.mode = .standby := h.mode ▸ hm
    cases hb : s.display.blankDue with
    | true =>
      simp only [if_true]
      exact .level ⟨h.mode, h.station, h.rate, h.listenOnly⟩
    | false =>
      simp only [Bool.false_eq_true, if_false]
      exact .start straps hs (by simp [hc, beginsStart, hs, hon, hpow, hb])
  | start | join | run | service => exact .level h

theorem does_keySwitchLevelChange {on : Bool} {straps : Straps}
    (h : execKeySwitchLevelChange on straps s = .next t) : Does (.keySwitchLevelChange on straps) s t := by
  refine .of_powered h fun hpow => CheckedAct.does ?_
  unfold takeKeyLevel
  dsimp only
  split
  · exact .level ⟨rfl, rfl, rfl, rfl⟩
  · next hne =>
    cases on with
    | true => exact keyTurnedOn_checked rfl (by simpa using hne) hpow ⟨rfl, rfl, rfl, rfl⟩
    | false => exact keyTurnedOff_checked ⟨rfl, rfl, rfl, rfl⟩

theorem does_restart {straps : Straps} (h : execRestart straps s = .next t) : Does (.restart straps) s t := by
  refine .of_powered h fun hpow => .ite fun ⟨hm, hr, hb⟩ => .inl ?_
  exact .restart straps hm (by simp [beginsStart, hm, hr, hb, hpow])

theorem does_telegramReceived {chars : List WireChar} (h : execTelegramReceived chars s = .next t) : Does c s t :=
  .of_powered h fun _ => CheckedAct.does (.receive chars)

theorem does_lockoutExpiry (h : execLockoutExpiry s = .next t) : Does c s t :=
  .of_powered h fun _ => .inl .lockout

theorem does_dumpEvent (h : execDumpEvent s = .next t) : Does c s t := by
  refine .of_powered h fun _ => ?_
  split
  · exact (Ordinary.trans (.of_same (by rfl)) (takeDump_ordinary _ _)).does
  · exact .nothing

theorem does_commitReport (h : execCommitReport s = .next t) : Does c s t := by
  refine .of_powered h fun _ => ?_
  split
  · exact (Ordinary.trans (.of_same (by rfl)) (takeCommitReport_ordinary _ _)).does
  · exact .nothing

theorem does_readServed (h : execReadServed s = .next t) : Does c s t := by
  refine .of_powered h fun _ => ?_
  split
  · split
    · exact .nothing
    · exact (serveRead_ordinary _ s).does
  · exact .nothing

/-- What every command does. -/
theorem exec_does (h : exec c s = .next t) : Does c s t := by
  cases c with
  | powerOn straps => obtain rfl : releaseReset straps s = t := by cases h; rfl
                      exact .inl (.release straps rfl rfl)
  | resetLineLow => obtain rfl : holdReset s = t := by cases h; rfl
                    exact .inl (.hold rfl)
  | resetLineRelease straps => obtain rfl : releaseReset straps s = t := by cases h; rfl
                               exact .inl (.release straps rfl rfl)
  | join => exact .of_powered h fun _ => .ite fun hm => .inl (.join hm)
  | keySwitchEdge high => cases h; exact .inl (.edge ⟨rfl, rfl, rfl, rfl⟩)
  | keySwitchLevelChange on straps => exact does_keySwitchLevelChange h
  | joinEnd => exact .of_powered h fun _ => .ite fun hm => CheckedAct.does (.endJoin hm)
  | blankFrame => exact .of_powered h fun _ => .ite fun _ => (sendBlank_ordinary s).does
  | restart straps => exact does_restart h
  | telegramReceived chars => exact does_telegramReceived h
  | dispatch => exact does_dispatch h
  | linkSilence ch slot => exact .of_powered h fun _ => (silenceSlot_ordinary ch slot s).does
  | valueStale ch slot => exact .of_powered h fun _ => (staleSlot_ordinary ch slot s).does
  | idleGap =>
    exact .of_powered h fun _ => .ite fun ha => .inl (.access 0 (by simp [ha]) (by simp [ha]) (by simp))
  | deferSlot => exact .of_powered h fun _ => .ite fun ha => .inl (.slot ha)
  | carrier =>
    exact .of_powered h fun _ => .ite fun ha =>
      .inl (.access s.line.slotCount (by simp [ha]) (by simp [ha]) (by simp))
  | transmitSuccess => exact .of_powered h fun _ => .ite fun ha => CheckedAct.does (.sent ha)
  | collision => exact .of_powered h fun _ => .ite fun ha => CheckedAct.does (.collided ha)
  | heartbeat => exact .of_powered h fun _ => .ite fun hb => .inl (.beat hb)
  | inputLost => exact .of_powered h fun _ => (lapseLift_ordinary _ fun hd => by simp_all [inputLostDue]).does
  | stall => exact .of_powered h fun _ => (lapseLift_ordinary _ fun hd => by simp_all [stallDue]).does
  | resolutionReport => exact .of_powered h fun _ => .ite fun hr => (resolutionReport_ordinary hr.2).does
  | captureInputLost => exact .of_powered h fun _ => (lapseCapture_ordinary s).does
  | keyRead levels => exact .of_powered h fun _ => .ite fun _ => (keyMarkPasses_ordinary levels s).does
  | deleteHoldExpiry =>
    exact .of_powered h fun _ => .ite fun _ => ((stopHold_ordinary s).trans (deleteAction_ordinary _)).does
  | dumpEvent => exact does_dumpEvent h
  | commitReport => exact does_commitReport h
  | boomBelowEvent =>
    exact .of_powered h fun _ => .ite fun _ => (Ordinary.trans (.of_same (by rfl)) (takeBoomBelow_ordinary _)).does
  | phaseTimerLimit => exact .of_powered h fun _ => .ite fun _ => (setCycle_ordinary _ s).does
  | calendarSecond => exact .of_powered h fun _ => .inl .second
  | lockoutExpiry => exact does_lockoutExpiry h
  | frameBegin => exact .of_powered h fun _ => .ite fun _ => (beginFrame_ordinary s).does
  | frameLatch =>
    exact .of_powered h fun _ => .ite fun _ => ((latchFrame_ordinary s).trans (waitingRead_ordinary _)).does
  | messageTimerExpiry => exact .of_powered h fun _ => .ite fun _ => (clearMessage_ordinary s).does
  | journalRecordWritten => exact does_journalRecordWritten h
  | readServed => exact does_readServed h
  | programFailure => exact does_programFailure h
  | eraseDone => exact does_eraseDone h
  | eraseFailed => exact does_eraseFailed h

end Sys2Proof.Machine
end

section
/-! PROOFS. The laws of Safety.lean through every sort of command, and through a step: silence, one pass, the Truck List,
the array's form and the queues' bounds. -/

namespace Sys2Proof.Machine

variable {c : Instr} {s t u v : State}

/-! ## The laws together -/

/-- The laws of Safety.lean that every step keeps. -/
structure LawsKept (s t : State) : Prop where
  quiet : s.mutedQuiet = true → t.mutedQuiet = true
  bounds : s.queuesBounded = true → t.queuesBounded = true
  form : Store.wf s.journal.store → Store.wf t.journal.store
  trucks : s.trucks.lawful = true → t.trucks.lawful = true
  pass : s.passLaw = true → t.passLaw = true

theorem LawsKept.trans (h : LawsKept s t) (h' : LawsKept t u) : LawsKept s u where
  quiet := h'.quiet ∘ h.quiet
  bounds := h'.bounds ∘ h.bounds
  form := h'.form ∘ h.form
  trucks := h'.trucks ∘ h.trucks
  pass := h'.pass ∘ h.pass

theorem LawsKept.refl (s : State) : LawsKept s s := ⟨id, id, id, id, id⟩

theorem quiet_iff (l : LineInterface) :
    l.quiet = true ↔ l.access = .silent ∧ l.queue = [] ∧ l.heartbeat = none := by
  simp [LineInterface.quiet, and_assoc]

theorem mutedQuiet_iff (s : State) :
    s.mutedQuiet = true ↔ (muted s = true → s.line.access = .silent ∧ s.line.queue = [] ∧ s.line.heartbeat = none) := by
  rw [← quiet_iff]
  cases h : muted s <;> simp [State.mutedQuiet, h]

/-- A silent line satisfies the law whether the part is muted or not (R213). -/
theorem mutedQuiet_of_quiet (h : s.line.quiet = true) : s.mutedQuiet = true := by simp [State.mutedQuiet, h]

theorem mutedQuiet_of_not_muted (h : muted s = false) : s.mutedQuiet = true := by simp [State.mutedQuiet, h]

theorem queuesBounded_iff (s : State) :
    s.queuesBounded = true ↔ s.line.inbox.length ≤ 4 ∧ s.line.queue.length ≤ 8 ∧
      s.journal.appendQueue.length ≤ 4 ∧ s.journal.readQueue.length ≤ 2 := by
  simp [State.queuesBounded, and_assoc]

/-- An operation that touches no field a law speaks of. -/
theorem LawsKept.of_same (h : (t.mutedQuiet, t.queuesBounded, t.journal.store, t.trucks.lawful, t.passLaw) =
    (s.mutedQuiet, s.queuesBounded, s.journal.store, s.trucks.lawful, s.passLaw)) : LawsKept s t := by
  simp only [Prod.mk.injEq] at h
  obtain ⟨hquiet, hbounds, hform, htrucks, hpass⟩ := h
  exact ⟨hquiet ▸ id, hbounds ▸ id, hform ▸ id, htrucks ▸ id, hpass ▸ id⟩

/-- An operation of the blocks keeps every law. -/
theorem Keeps.laws (h : Keeps s t) : LawsKept s t where
  quiet := by
    rw [mutedQuiet_iff, mutedQuiet_iff, h.muted_eq]
    exact fun hq hm => h.silent hm ▸ hq hm
  bounds := by
    rw [queuesBounded_iff, queuesBounded_iff, h.line.inbox]
    exact fun ⟨hi, hq, ha, hr⟩ => ⟨hi, h.line.queue_length hq, h.journal.appends ha, h.journal.reads hr⟩
  form := h.journal.store ▸ id
  trucks := h.trucks
  pass := h.pass

/-- Outside RUN the Weigher of a lawful state is OFF (R4). -/
theorem off_of_passLaw (h : s.passLaw = true) (hmode : s.modeCtl.mode ≠ .run) : s.weigher.state = .off := by
  simp only [State.passLaw, Bool.and_eq_true, offOutsideRun_iff] at h
  exact not_not.1 (h.1.not.1 hmode)

/-- Entry to STANDBY keeps the laws: the line is silent, and the Weigher is OFF in CLOSING and in STANDBY. -/
theorem closingCheck_laws (s : State) : LawsKept s (closingCheck s) := by
  rcases closingCheck_cases s with h | ⟨hmode, -, -, -, h⟩ <;> rw [h]
  · exact .refl s
  · refine ⟨fun _ => mutedQuiet_of_quiet rfl, ?_, id, id, fun hp => ?_⟩
    · simp [queuesBounded_iff, enterStandby, LineInterface.rest]
    · have hoff := off_of_passLaw hp (by simp [hmode])
      rw [passLaw_off hoff] at hp
      exact (passLaw_off (s := enterStandby s) hoff).2 ⟨by simp [enterStandby], hp.2.1, .inr (.inr rfl)⟩

/-! ## Starts and the reset line (R221, R226) -/

/-- A start leaves every law true that the array's form does not decide (R221). -/
theorem startPart_laws (straps : Straps) (h : Store.wf s.journal.store → Store.wf u.journal.store) :
    LawsKept s (startPart straps u) where
  quiet := fun _ => mutedQuiet_of_quiet rfl
  bounds := fun _ => by
    have hb := afterRestore_bounded (Journal.scan u.journal.store)
    exact (queuesBounded_iff _).2 ⟨Nat.zero_le _, Nat.zero_le _, hb.appends.trans (Nat.zero_le _), hb.reads.trans (Nat.zero_le _)⟩
  form := fun hw => by
    have hstore : (startPart straps u).journal.store = u.journal.store := (afterRestore_store _).trans (scan_store _)
    exact hstore ▸ h hw
  trucks := fun _ => rfl
  pass := fun _ => (passLaw_off (by rfl)).2 ⟨by simp [startPart, clearBlocks, scanAndRestore, readStraps], rfl, .inl rfl⟩

theorem cut_bounded (j : Journal) (free : Nat) : j.Bounded (j.cut free) := .of_same rfl

/-- The reset line going low cuts the array's work and silences the line, and keeps the rest (R226). -/
theorem holdReset_laws (s : State) : LawsKept s (holdReset s) := by
  unfold holdReset
  split
  · exact .refl s
  · refine ⟨?_, ?_, (cut_worked s.journal s.freeCount).form, id, id⟩
    · rw [mutedQuiet_iff, mutedQuiet_iff]
      refine fun hq hm => ?_
      obtain ⟨-, hqueue, hbeat⟩ := hq hm
      exact ⟨rfl, by simp [stopSending, hqueue], hbeat⟩
    · rw [queuesBounded_iff, queuesBounded_iff]
      exact fun ⟨hi, hq, ha, hr⟩ => ⟨hi, (List.length_map _).trans_le hq, ha, hr⟩

/-! ## The line (R207 to R216) -/

theorem setClash_laws (s : State) : LawsKept s (setClash s) := by
  unfold setClash
  split
  · exact .refl s
  · refine ⟨fun _ => mutedQuiet_of_quiet rfl, ?_, id, id, id⟩
    rw [queuesBounded_iff, queuesBounded_iff]
    exact fun ⟨hi, _, ha, hr⟩ => ⟨hi, Nat.zero_le _, ha, hr⟩

theorem enterInbox_laws (r : RxTelegram) (s : State) : LawsKept s (enterInbox r s) := by
  unfold enterInbox
  split
  · refine ⟨id, ?_, id, id, id⟩
    simp only [queuesBounded_iff, List.length_append, List.length_singleton]
    omega
  · exact .of_same rfl

theorem receive_laws (chars : List WireChar) (s : State) : LawsKept s (receive chars s) := by
  unfold receive
  split
  · split
    · exact .of_same rfl
    · exact .of_same rfl
    · split
      · exact setClash_laws s
      · exact enterInbox_laws _ s
  · exact .refl s

/-- A line that is not SILENT belongs to a part that is not muted (R213). -/
theorem not_muted_of_access (hq : s.mutedQuiet = true) (h : s.line.access ≠ .silent) : muted s = false := by
  rw [mutedQuiet_iff] at hq
  exact Bool.eq_false_iff.2 fun hm => h (hq hm).1

theorem slotEnds_laws (h : s.line.access = .defer) : LawsKept s (slotEnds s) where
  form := id
  trucks := id
  pass := id
  quiet := fun hq => mutedQuiet_of_not_muted (not_muted_of_access (s := s) hq (by simp [h]) :)
  bounds := by
    have hmark (q : List TxTelegram) : (markFront q).length = q.length := by cases q <;> rfl
    rw [queuesBounded_iff, queuesBounded_iff]
    unfold slotEnds
    dsimp only
    split_ifs
    · rw [hmark]; exact id
    · exact id

theorem transmissionDone_laws (h : s.line.access = .send) : LawsKept s (transmissionDone s) where
  form := id
  trucks := id
  pass := id
  quiet := fun hq => mutedQuiet_of_not_muted (not_muted_of_access (s := s) hq (by simp [h]) :)
  bounds := by
    rw [queuesBounded_iff, queuesBounded_iff]
    exact fun ⟨hi, hl, ha, hr⟩ => ⟨hi, (List.length_filter_le _ _).trans hl, ha, hr⟩

/-- A collision before it may set CLASH (R212). -/
def collisionCounted (s : State) : State :=
  { s with line := { s.line with
    access := .waitIdle, attempts := inc s.line.attempts, collisions := min 3 (s.line.collisions + 1),
    queue := s.line.queue.filterMap TxTelegram.failed,
    dropped := if s.line.queue.any (fun t => t.sending && decide (4 ≤ t.attempts + 1)) then inc s.line.dropped
      else s.line.dropped } }

theorem collide_eq (s : State) :
    collide s = if 3 ≤ s.line.collisions + 1 then setClash (collisionCounted s) else collisionCounted s := rfl

theorem collide_laws (h : s.line.access = .send) : LawsKept s (collide s) := by
  have hcounted : LawsKept s (collisionCounted s) :=
    ⟨fun hq => mutedQuiet_of_not_muted (not_muted_of_access (s := s) hq (by simp [h]) :), by
      rw [queuesBounded_iff, queuesBounded_iff]
      exact fun ⟨hi, hl, ha, hr⟩ => ⟨hi, (List.length_filterMap_le _ _).trans hl, ha, hr⟩, id, id, id⟩
  rw [collide_eq]
  split
  · exact hcounted.trans (setClash_laws _)
  · exact hcounted

theorem replaceHeartbeat_length (d : List Word) (q : List TxTelegram) : (replaceHeartbeat d q).length = q.length := by
  induction q with
  | nil => rfl
  | cons t rest ih =>
    unfold replaceHeartbeat
    split
    · rfl
    · simp [ih]

/-- The HEARTBEAT of a part that is not muted (R216). -/
theorem beat_laws (h : s.mutedQuiet = true → muted s = false) : LawsKept s (beat s) := by
  have hrestart : LawsKept s { s with line := { s.line with heartbeat := some 1000 } } :=
    ⟨fun hq => mutedQuiet_of_not_muted (h hq), id, id, id, id⟩
  unfold beat
  dsimp only
  split
  · refine hrestart.trans ⟨fun hq => ?_, ?_, id, id, id⟩
    · rw [mutedQuiet_iff] at hq ⊢
      exact fun hmut => absurd (hq hmut).2.2 (by simp)
    · rw [queuesBounded_iff, queuesBounded_iff]
      dsimp only
      rw [replaceHeartbeat_length]
      exact id
  · exact hrestart.trans (transmit_ordinary _ _ _).toKeeps.laws

theorem startAccess_laws (s : State) : LawsKept s (startAccess s) := by
  unfold startAccess
  split
  · exact .refl s
  · next hm =>
    have hm : muted s = false := by simpa using hm
    have haccess : LawsKept s { s with line := { s.line with access := .waitIdle } } :=
      ⟨fun _ => mutedQuiet_of_not_muted hm, id, id, id, id⟩
    exact haccess.trans (beat_laws fun _ => hm)

/-! ## The modes (R221 to R224) -/

theorem startFrame_ordinary (s : State) : Ordinary s (startFrame s) :=
  .ite (fun _ => dueFrameFirst_ordinary s) fun _ => .refl s

theorem enterJoin_laws (hmode : s.modeCtl.mode = .start) : LawsKept s (enterJoin s) := by
  refine ⟨id, id, id, id, fun hp => ?_⟩
  have hoff := off_of_passLaw hp (by simp [hmode])
  rw [passLaw_off hoff] at hp
  exact (passLaw_off (s := enterJoin s) hoff).2 ⟨by simp [enterJoin], hp.2.1,
      .inl (show s.mail.resolutions = 0 by simpa [hmode] using hp.2.2)⟩

/-- The Weigher that leaves OFF (R4, R5). -/
theorem weigherLeavesOff_eq (s : State) :
    weigherLeavesOff s = { s with
      weigher := { s.weigher with
        state := if s.cal.active.curves.isNone then .noCal
          else belowOrAbove s.weigher.lastBoom s.cal.active.thetaLo },
      display := { s.display with stale := s.display.stale || s.cal.active.curves.isNone } } := by
  have hne : belowOrAbove s.weigher.lastBoom s.cal.active.thetaLo ≠ .noCal := by
    cases s.weigher.lastBoom with
    | none => simp [belowOrAbove]
    | some v => rw [belowOrAbove]; split <;> simp
  unfold weigherLeavesOff
  cases s.cal.active.curves.isNone <;> simp [notice, hne]

/-- The Weigher that leaves OFF follows the boom (R4). -/
theorem weigherLeavesOff_follows (s : State) : (weigherLeavesOff s).weigher.state.follows = true := by
  rw [weigherLeavesOff_eq]
  dsimp only
  split
  · rfl
  · exact belowOrAbove_follows _ _

/-- A JOIN that ends in a mode other than CLOSING keeps the laws where that mode fits the Weigher. -/
theorem enterRun_laws (hmode : s.modeCtl.mode = .join) : LawsKept s (enterRun s) := by
  have hleft : LawsKept s (weigherLeavesOff { s with modeCtl := { s.modeCtl with mode := .run } }) := by
    have hfollows := weigherLeavesOff_follows { s with modeCtl := { s.modeCtl with mode := .run } }
    rw [weigherLeavesOff_eq] at hfollows ⊢
    refine ⟨id, id, id, id, fun hp => ?_⟩
    rw [passLaw_off (off_of_passLaw hp (by simp [hmode]))] at hp
    exact (passLaw_follows hfollows).2 ⟨rfl, hp.2.1, by simpa [hmode] using hp.2.2⟩
  exact ((hleft.trans (setCycle_ordinary _ _).toKeeps.laws).trans (overdueTest_keeps _).laws).trans (startAccess_laws _)

theorem enterService_laws (hmode : s.modeCtl.mode = .join) : LawsKept s (enterService s) := by
  have hservice : LawsKept s { s with modeCtl := { s.modeCtl with mode := .service } } :=
    ⟨id, id, id, id, fun hp => by
      have hoff := off_of_passLaw hp (by simp [hmode])
      rw [passLaw_off hoff] at hp
      exact (passLaw_off (by exact hoff)).2 ⟨by simp, hp.2.1, .inl (by simpa [hmode] using hp.2.2)⟩⟩
  exact ((hservice.trans (enterServiceCalibration_ordinary _).toKeeps.laws).trans (overdueTest_keeps _).laws).trans
    (startAccess_laws _)

/-! ## Closing (R224) -/

theorem leaveService_frame (s : State) :
    leaveService s = { s with cal := (leaveService s).cal, display := (leaveService s).display } := by
  unfold leaveService closeCapture
  split
  · split <;> rfl
  · rfl

theorem closingDiscard_frame (s : State) :
    closingDiscard s = { s with
      pass := { s.pass with pending := none },
      mail := { s.mail with
        resolutions := s.mail.resolutions + (if s.pass.pending.isSome then 1 else 0) },
      display := (closingDiscard s).display } := by
  unfold closingDiscard
  cases h : s.pass.pending with
  | some p => rfl
  | none =>
    obtain ⟨pins, modeCtl, line, prod, weigher, cal, ⟨pending, material, lastShown⟩⟩ := s
    obtain rfl : pending = none := h
    rfl

theorem keyOffClose_of_empty (h : headHoldsPass s = false) : keyOffClose s = setEntries [] s := by
  simp [keyOffClose, h]

theorem keyOffClose_of_cons {e : TruckEntry} {rest : List TruckEntry} (he : s.trucks.entries = e :: rest)
    (hp : e.passes ≠ []) : keyOffClose s = setEntries [] (closeHead .keyOff s) := by
  have h : headHoldsPass s = true := by simpa [headHoldsPass, he] using hp
  simp [keyOffClose, h]

/-- The close of key-off touches the list, the line by its TRUCK_STATE, the journal by its record, the tally and the
display (R117). -/
theorem keyOffClose_frame (s : State) :
    keyOffClose s = { s with
      trucks := { s.trucks with entries := [] }, tally := (keyOffClose s).tally, journal := (keyOffClose s).journal,
      line := (keyOffClose s).line, display := (keyOffClose s).display } := by
  unfold keyOffClose
  split
  · cases he : s.trucks.entries with
    | nil => simp [closeHead, he, setEntries, notice]
    | cons e rest => rw [closeHead_of_cons he]; rfl
  · rfl

/-- What key-off leaves of a part (R56, R117, R176, R224). -/
theorem enterClosing_frame (s : State) :
    enterClosing s = { s with
      modeCtl := { s.modeCtl with mode := .closing },
      weigher := { s.weigher with state := .off, acc := .cleared },
      pass := { s.pass with pending := none },
      mail := { s.mail with
        resolutions := s.mail.resolutions + (if s.pass.pending.isSome then 1 else 0) },
      trucks := { s.trucks with entries := [] },
      cal := (leaveService s).cal,
      tally := (enterClosing s).tally, journal := (enterClosing s).journal, line := (enterClosing s).line,
      display := (enterClosing s).display } := by
  unfold enterClosing
  dsimp only
  rw [leaveService_frame, weigherOff_eq, closingDiscard_frame, keyOffClose_frame]
  rfl

theorem askDrain_laws (s : State) : LawsKept s (askDrain s) := .of_same rfl

/-- The four steps of closing keep the laws outside RUN (R224). -/
theorem closingSteps_laws (hmode : s.modeCtl.mode ≠ .run) :
    LawsKept s (askDrain (takeSnapshot (keyOffClose (closingDiscard (weigherOff s))))) :=
  ((((weigherOff_keeps hmode).trans (closingDiscard_ordinary _).toKeeps).trans (keyOffClose_ordinary _).toKeeps).trans
    (takeSnapshot_ordinary _).toKeeps).laws.trans (askDrain_laws _)

/-- Key-off keeps the laws: the Weigher goes to OFF as the part leaves RUN, and the pending pass is resolved. -/
theorem enterClosing_laws (s : State) : LawsKept s (enterClosing s) := by
  have hleft : LawsKept { s with modeCtl := { s.modeCtl with mode := .closing } }
      { stopHold (leaveService s) with
        modeCtl := { (stopHold (leaveService s)).modeCtl with mode := .closing } } := by
    rw [leaveService_frame]
    exact .of_same rfl
  have hall : LawsKept { s with modeCtl := { s.modeCtl with mode := .closing } } (enterClosing s) :=
    hleft.trans (closingSteps_laws (by simp))
  exact { quiet := hall.quiet, bounds := hall.bounds, form := hall.form, trucks := hall.trucks,
          pass := fun _ => by
            rw [enterClosing_frame]
            exact (passLaw_off (by rfl)).2 ⟨by simp, rfl, .inr (.inl rfl)⟩ }

theorem endJoin_laws (hmode : s.modeCtl.mode = .join) : LawsKept s (endJoin s) := by
  have htimer : LawsKept s { s with modeCtl := { s.modeCtl with joinTimer := 500 } } := .of_same rfl
  unfold endJoin
  dsimp only
  split
  · exact htimer.trans (enterClosing_laws _)
  · split
    · exact htimer.trans (enterService_laws hmode)
    · exact htimer.trans (enterRun_laws hmode)

/-! ## Every command -/

theorem edge_laws {p : Pins} {m : ModeCtl} (h : s.modeCtl.Agrees m) :
    LawsKept s { s with pins := p, modeCtl := m } := by
  refine ⟨?_, id, id, id, ?_⟩
  · simp only [mutedQuiet_iff, muted, h.listenOnly]
    exact id
  · simp only [State.passLaw, State.offOutsideRun, State.onePass, h.mode]
    exact id

theorem Act.laws (h : Act c s t) : LawsKept s t := by
  cases h with
  | ordinary h => exact h.toKeeps.laws
  | release straps =>
    have hheld := holdReset_laws s
    exact startPart_laws straps hheld.form
  | hold => exact holdReset_laws s
  | edge h => exact edge_laws h
  | join h => exact (startFrame_ordinary s).toKeeps.laws.trans (enterJoin_laws (by rw [(startFrame_ordinary s).modeCtl, h]))
  | restart straps => exact startPart_laws straps id
  | access n hs => exact ⟨fun hq => mutedQuiet_of_not_muted (not_muted_of_access (s := s) hq hs :), id, id, id, id⟩
  | slot h => exact slotEnds_laws h
  | beat h =>
    refine beat_laws fun hq => Bool.eq_false_iff.2 fun hm => ?_
    rw [mutedQuiet_iff] at hq
    simp [(hq hm).2.2] at h
  | second => exact (secondPasses_keeps s).laws
  | lockout => exact .of_same rfl

theorem inboxPopped_laws {r : RxTelegram} {rest : List RxTelegram} (h : s.line.inbox = r :: rest) :
    LawsKept s { s with line := { s.line with inbox := rest } } := by
  refine ⟨id, ?_, id, id, id⟩
  simp only [queuesBounded_iff, h, List.length_cons]
  omega

theorem workEnds_laws {k : Journal} (hk : s.journal.WorkEnds k) : LawsKept s { s with journal := k } := by
  refine ⟨id, ?_, hk.worked.form, id, id⟩
  rw [queuesBounded_iff, queuesBounded_iff]
  exact fun ⟨hi, hq, ha, hr⟩ => ⟨hi, hq, hk.bounded.appends.trans ha, hk.bounded.reads.trans hr⟩

theorem CheckedAct.laws (h : CheckedAct c s v) : LawsKept s v := by
  cases h with
  | nothing => exact .refl s
  | level h => exact edge_laws h
  | close h => exact (edge_laws h).trans (enterClosing_laws _)
  | start straps => exact startPart_laws straps id
  | endJoin h => exact endJoin_laws h
  | receive chars => exact receive_laws chars s
  | dispatch h => exact (inboxPopped_laws h).trans (takeTelegram_keeps _ _).laws
  | sent h => exact transmissionDone_laws h
  | collided h => exact collide_laws h
  | work hk h => exact (workEnds_laws hk).trans h.toKeeps.laws

/-- Every command keeps the laws. -/
theorem exec_laws (h : exec c s = .next t) : LawsKept s t := by
  rcases exec_does h with ha | ⟨v, hv, rfl⟩
  · exact ha.laws
  · exact hv.laws.trans (closingCheck_laws v)

/-! ## One millisecond, and a step -/

theorem tickBlocks_laws (s : State) : LawsKept s (tickBlocks s) := by
  have hticked : LawsKept s { s with
      modeCtl := { s.modeCtl with
        joinTimer := if s.modeCtl.mode = .join then countUp 500 s.modeCtl.joinTimer else s.modeCtl.joinTimer },
      weigher := s.weigher.tick,
      cal := { s.cal with inputTimer := tickUp 250 s.cal.inputTimer },
      cycle := s.cycle.tick,
      line := { s.line with heartbeat := tickDown s.line.heartbeat },
      journal := s.journal.tick } := by
    have htick : s.journal.tick = { s.journal with eraseTime := s.journal.tick.eraseTime } := by
      unfold Journal.tick
      split <;> rfl
    rw [htick]
    refine ⟨?_, id, id, id, id⟩
    rw [mutedQuiet_iff, mutedQuiet_iff]
    refine fun hq hm => ?_
    obtain ⟨ha, hl, hb⟩ := hq hm
    exact ⟨ha, hl, by simp [hb, tickDown]⟩
  unfold tickBlocks
  dsimp only
  split
  · exact hticked.trans (setProducers_ordinary _ _).toKeeps.laws
  · exact hticked

theorem advance_laws (s : State) : LawsKept s (advance s) := by
  have halways : LawsKept s (tickAlways s) := .of_same rfl
  have hblocks : LawsKept s (if s.modeCtl.mode = .standby then tickAlways s else tickBlocks (tickAlways s)) := by
    split
    · exact halways
    · exact halways.trans (tickBlocks_laws _)
  unfold advance
  dsimp only
  split
  · exact .refl s
  · split
    · exact hblocks.trans (.of_same (by rfl))
    · exact hblocks

/-- Every step keeps the laws. -/
theorem step_laws (h : step s = .next t) : LawsKept s t := by
  unfold step at h
  split at h
  · exact LawsKept.trans (.of_same (by rfl)) (exec_laws h)
  · unfold idle at h
    split at h
    · exact exec_laws h
    · cases h
      exact advance_laws s

/-! ## What is settled -/

/-- Settles O17: silence is kept by every sort of command. -/
theorem mutedStaysQuiet : Obligations.MutedStaysQuiet := fun _ _ h hstep => (step_laws hstep).quiet h

/-- Settles O31: the Weigher and the Pass Unit move together, through every sort of command. -/
theorem onePassIsKept : Obligations.OnePassIsKept := fun _ _ h hstep => (step_laws hstep).pass h

/-- Settles O40: each operation of the Truck List keeps its laws, and nothing else touches the list. -/
theorem truckLawsAreKept : Obligations.TruckLawsAreKept := fun _ _ h hstep => (step_laws hstep).trucks h

/-- Settles O59: the array changes by programs and erases alone, and every queue is entered under its bound. -/
theorem formAndBoundsAreKept : Obligations.FormAndBoundsAreKept := fun _ _ hstep =>
  ⟨(step_laws hstep).form, (step_laws hstep).bounds⟩

end Sys2Proof.Machine
end

section
/-! PROOFS. What no command touches: the array outside its two operations, and, but for a start, the straps, CLASH, the
figures of the open shift and the lockout. The modes lead where chapter 11 lets them. -/

namespace Sys2Proof.Machine

variable {c : Instr} {s t u v : State}

/-! ## The line through the sorts of commands -/

theorem beat_frame (s : State) : beat s = { s with line := (beat s).line } := by
  unfold beat
  dsimp only
  split
  · rfl
  · rw [transmit_frame]

theorem startAccess_frame (s : State) : startAccess s = { s with line := (startAccess s).line } := by
  unfold startAccess
  split
  · rfl
  · rw [beat_frame]

theorem transmit_clash (k : TxKind) (d : List Word) (s : State) : (transmit k d s).line.clash = s.line.clash :=
  (transmit_ordinary k d s).line.clash

theorem beat_clash (s : State) : (beat s).line.clash = s.line.clash := by
  unfold beat
  dsimp only
  split
  · rfl
  · rw [transmit_clash]

theorem startAccess_clash (s : State) : (startAccess s).line.clash = s.line.clash := by
  unfold startAccess
  split
  · rfl
  · rw [beat_clash]

/-- A command of the line that may set CLASH touches the line and the stale mark alone (R213). -/
theorem setClash_frame (s : State) :
    setClash s = { s with line := (setClash s).line, display := (setClash s).display } := by
  unfold setClash
  split <;> rfl

theorem collide_frame (s : State) :
    collide s = { s with line := (collide s).line, display := (collide s).display } := by
  rw [collide_eq]
  split
  · rw [setClash_frame]; rfl
  · rfl

theorem receive_frame (chars : List WireChar) (s : State) :
    receive chars s = { s with line := (receive chars s).line, display := (receive chars s).display } := by
  unfold receive enterInbox
  split
  · split
    · rfl
    · rfl
    · split
      · exact setClash_frame s
      · split <;> rfl
  · rfl

theorem setClash_clash (s : State) : (setClash s).line.clash = true := by
  unfold setClash
  split
  · assumption
  · rfl

theorem receive_clash (chars : List WireChar) (h : s.line.clash = true) : (receive chars s).line.clash = true := by
  unfold receive enterInbox
  split
  · split
    · exact h
    · exact h
    · split
      · exact setClash_clash s
      · split <;> exact h
  · exact h

theorem collide_clash (h : s.line.clash = true) : (collide s).line.clash = true := by
  rw [collide_eq]
  split
  · exact setClash_clash _
  · exact h

/-! ## The modes -/

/-- The check keeps what entry to STANDBY keeps (R225). -/
theorem closingCheck_keeps (v : State) :
    (closingCheck v).journal = v.journal ∧ (closingCheck v).tally = v.tally ∧ (closingCheck v).clock = v.clock ∧
      (closingCheck v).line.clash = v.line.clash ∧ v.modeCtl.Agrees { (closingCheck v).modeCtl with mode := v.modeCtl.mode } := by
  rcases closingCheck_cases v with h | ⟨-, -, -, -, h⟩ <;> rw [h] <;> exact ⟨rfl, rfl, rfl, rfl, rfl, rfl, rfl, rfl⟩

theorem enterRun_mode (s : State) : (enterRun s).modeCtl = { s.modeCtl with mode := .run } := by
  unfold enterRun
  rw [startAccess_frame, weigherLeavesOff_eq]
  exact (overdueTest_keeps _).modeCtl

theorem enterService_mode (s : State) : (enterService s).modeCtl = { s.modeCtl with mode := .service } := by
  unfold enterService
  rw [startAccess_frame]
  exact (overdueTest_keeps _).modeCtl

theorem enterClosing_modeCtl (s : State) : (enterClosing s).modeCtl = { s.modeCtl with mode := .closing } := by
  rw [enterClosing_frame]

/-- The Mode Controller at the end of JOIN (R222). -/
theorem endJoin_modeCtl (s : State) : ∃ m, (m = .run ∨ m = .service ∨ m = .closing) ∧
    (endJoin s).modeCtl = { s.modeCtl with joinTimer := 500, mode := m } := by
  unfold endJoin
  dsimp only
  split
  · exact ⟨.closing, by simp, enterClosing_modeCtl _⟩
  · split
    · exact ⟨.service, by simp, enterService_mode _⟩
    · exact ⟨.run, by simp, enterRun_mode _⟩

theorem Act.mode_mayLeadTo (h : Act c s t) (hc : isReset c = false) :
    s.modeCtl.mode.mayLeadTo t.modeCtl.mode = true := by
  have hsame (m : Mode) : m.mayLeadTo m = true := by simp [Mode.mayLeadTo]
  cases h with
  | ordinary h => rw [h.modeCtl]; exact hsame _
  | release straps hr => simp [hr] at hc
  | hold =>
    unfold holdReset
    split <;> exact hsame _
  | edge h => rw [h.mode]; exact hsame _
  | join h => rw [h]; rfl
  | restart straps h => rw [h]; rfl
  | beat => rw [beat_frame]; exact hsame _
  | second => rw [(secondPasses_keeps s).modeCtl]; exact hsame _
  | access | slot | lockout => exact hsame _

theorem CheckedAct.mode_mayLeadTo (h : CheckedAct c s v) :
    s.modeCtl.mode.mayLeadTo v.modeCtl.mode = true := by
  have hsame (m : Mode) : m.mayLeadTo m = true := by simp [Mode.mayLeadTo]
  cases h with
  | level h => rw [h.mode]; exact hsame _
  | close h hm =>
    rw [enterClosing_modeCtl, ← h.mode]
    obtain hm | hm := hm <;> rw [hm] <;> rfl
  | start straps h => rw [h]; rfl
  | endJoin h =>
    obtain ⟨m, hm, heq⟩ := endJoin_modeCtl s
    rw [heq, h]
    obtain rfl | rfl | rfl := hm <;> rfl
  | receive chars => rw [receive_frame]; exact hsame _
  | dispatch => rw [(takeTelegram_keeps _ _).modeCtl]; exact hsame _
  | collided => rw [collide_frame]; exact hsame _
  | work hk h => rw [h.modeCtl]; exact hsame _
  | nothing | sent => exact hsame _

/-- The end of closing may follow whatever may lead to CLOSING (R224). -/
theorem mayLeadTo_standby {m : Mode} (h : m.mayLeadTo .closing = true) : m.mayLeadTo .standby = true := by
  cases m with
  | start | standby => cases h
  | join | run | service | closing => rfl

/-- Settles O11: each sort of command moves the mode as chapter 11 says, and the check at its end may add the step
from CLOSING to STANDBY. -/
theorem modesFollowTheChapter : Obligations.ModesFollowTheChapter := by
  intro c s t h hc
  rcases exec_does h with ha | ⟨v, hv, rfl⟩
  · exact ha.mode_mayLeadTo hc
  · have hm := hv.mode_mayLeadTo
    rcases closingCheck_cases v with h' | ⟨hclosing, -, -, -, h'⟩
    · rw [h']; exact hm
    · rw [h']
      rw [hclosing] at hm
      exact mayLeadTo_standby hm

/-! ## What only a start changes (R213, R221, R223), and the unweighed cycles (R159) -/

/-- What every command keeps that begins no start. -/
structure RunsOn (s t : State) : Prop where
  station : t.modeCtl.station = s.modeCtl.station
  rate : t.modeCtl.rate = s.modeCtl.rate
  listenOnly : t.modeCtl.listenOnly = s.modeCtl.listenOnly
  clash : s.line.clash = true → t.line.clash = true
  unweighed : s.tally.unweighedLaw = true → t.tally.unweighedLaw = true

theorem RunsOn.trans (h : RunsOn s t) (h' : RunsOn t u) : RunsOn s u where
  station := h'.station.trans h.station
  rate := h'.rate.trans h.rate
  listenOnly := h'.listenOnly.trans h.listenOnly
  clash := h'.clash ∘ h.clash
  unweighed := h'.unweighed ∘ h.unweighed

theorem RunsOn.refl (s : State) : RunsOn s s := ⟨rfl, rfl, rfl, id, id⟩

theorem Keeps.runsOn (h : Keeps s t) : RunsOn s t :=
  ⟨by rw [h.modeCtl], by rw [h.modeCtl], by rw [h.modeCtl], fun hc => h.line.clash.trans hc, h.unweighed⟩

theorem closingCheck_runsOn (v : State) : RunsOn v (closingCheck v) := by
  obtain ⟨-, htally, -, hclash, -, hstation, hrate, hlisten⟩ := closingCheck_keeps v
  exact ⟨hstation, hrate, hlisten, fun h => hclash.trans h, htally ▸ id⟩

theorem edge_runsOn {p : Pins} {m : ModeCtl} (h : s.modeCtl.Agrees m) :
    RunsOn s { s with pins := p, modeCtl := m } :=
  ⟨h.station, h.rate, h.listenOnly, id, id⟩

theorem startAccess_runsOn (s : State) : RunsOn s (startAccess s) := by
  have hclash := startAccess_clash s
  rw [startAccess_frame] at hclash ⊢
  exact ⟨rfl, rfl, rfl, fun h => hclash.trans h, id⟩

theorem enterRun_runsOn (s : State) : RunsOn s (enterRun s) := by
  have hleft : RunsOn s (releaseHold (weigherLeavesOff { s with modeCtl := { s.modeCtl with mode := .run } })) := by
    rw [weigherLeavesOff_eq]
    exact ⟨rfl, rfl, rfl, id, id⟩
  exact (hleft.trans (overdueTest_keeps _).runsOn).trans (startAccess_runsOn _)

theorem enterService_runsOn (s : State) : RunsOn s (enterService s) := by
  have hservice : RunsOn s (enterServiceCalibration { s with modeCtl := { s.modeCtl with mode := .service } }) :=
    ⟨rfl, rfl, rfl, id, id⟩
  exact (hservice.trans (overdueTest_keeps _).runsOn).trans (startAccess_runsOn _)

/-- The steps of closing outside RUN are operations of the blocks, but for the order to drain. -/
theorem closingSteps_keeps (hmode : s.modeCtl.mode ≠ .run) :
    Keeps s (takeSnapshot (keyOffClose (closingDiscard (weigherOff s)))) :=
  (((weigherOff_keeps hmode).trans (closingDiscard_ordinary _).toKeeps).trans (keyOffClose_ordinary _).toKeeps).trans
    (takeSnapshot_ordinary _).toKeeps

/-- Key-off is operations of the blocks from a state that has left its mode, but for the order to drain. -/
theorem enterClosing_of_left (s : State) : ∃ u v,
    u.journal = s.journal ∧ u.line = s.line ∧ u.tally = s.tally ∧ u.clock = s.clock ∧
      u.modeCtl = { s.modeCtl with mode := .closing } ∧ Keeps u v ∧ enterClosing s = askDrain v := by
  refine ⟨{ stopHold (leaveService s) with modeCtl := { (stopHold (leaveService s)).modeCtl with mode := .closing } }, _,
    ?_, ?_, ?_, ?_, ?_, closingSteps_keeps (by simp), rfl⟩
  all_goals rw [leaveService_frame]; rfl

theorem enterClosing_runsOn (s : State) : RunsOn s (enterClosing s) := by
  obtain ⟨u, v, -, hline, htally, -, hmode, hkeeps, heq⟩ := enterClosing_of_left s
  have hleft : RunsOn s u := ⟨by rw [hmode], by rw [hmode], by rw [hmode], fun h => hline ▸ h, fun h => htally ▸ h⟩
  have hasked : RunsOn v (askDrain v) := ⟨rfl, rfl, rfl, id, id⟩
  exact heq ▸ (hleft.trans hkeeps.runsOn).trans hasked

theorem endJoin_runsOn (s : State) : RunsOn s (endJoin s) := by
  have htimer : RunsOn s { s with modeCtl := { s.modeCtl with joinTimer := 500 } } := ⟨rfl, rfl, rfl, id, id⟩
  unfold endJoin
  dsimp only
  split
  · exact htimer.trans (enterClosing_runsOn _)
  · split
    · exact htimer.trans (enterService_runsOn _)
    · exact htimer.trans (enterRun_runsOn _)

theorem Act.runsOn (h : Act c s t) (hb : beginsStart c s = false) : RunsOn s t := by
  cases h with
  | ordinary h => exact h.toKeeps.runsOn
  | release straps hc hb' => rw [hb] at hb'; cases hb'
  | hold =>
    unfold holdReset
    split
    · exact .refl s
    · exact ⟨rfl, rfl, rfl, id, id⟩
  | edge h => exact edge_runsOn h
  | join => exact (startFrame_ordinary s).toKeeps.runsOn.trans ⟨rfl, rfl, rfl, id, id⟩
  | restart straps h hb' => rw [hb] at hb'; cases hb'
  | beat =>
    have hclash := beat_clash s
    rw [beat_frame] at hclash ⊢
    exact ⟨rfl, rfl, rfl, fun h => hclash.trans h, id⟩
  | second => exact (secondPasses_keeps s).runsOn
  | access | slot | lockout => exact ⟨rfl, rfl, rfl, id, id⟩

theorem CheckedAct.runsOn (h : CheckedAct c s v) (hb : beginsStart c s = false) : RunsOn s v := by
  cases h with
  | nothing => exact .refl s
  | level h => exact edge_runsOn h
  | close h => exact (edge_runsOn h).trans (enterClosing_runsOn _)
  | start straps h hb' => rw [hb] at hb'; cases hb'
  | endJoin => exact endJoin_runsOn s
  | receive chars =>
    have hclash := receive_clash chars (s := s)
    rw [receive_frame] at hclash ⊢
    exact ⟨rfl, rfl, rfl, hclash, id⟩
  | @dispatch _ rest _ =>
    have hpopped : RunsOn s { s with line := { s.line with inbox := rest } } := ⟨rfl, rfl, rfl, id, id⟩
    exact hpopped.trans (takeTelegram_keeps _ _).runsOn
  | sent => exact ⟨rfl, rfl, rfl, id, id⟩
  | collided =>
    have hclash := collide_clash (s := s)
    rw [collide_frame] at hclash ⊢
    exact ⟨rfl, rfl, rfl, hclash, id⟩
  | @work k _ hk h =>
    have hended : RunsOn s { s with journal := k } := ⟨rfl, rfl, rfl, id, id⟩
    exact hended.trans h.toKeeps.runsOn

theorem exec_runsOn (h : exec c s = .next t) (hb : beginsStart c s = false) : RunsOn s t := by
  rcases exec_does h with ha | ⟨v, hv, rfl⟩
  · exact ha.runsOn hb
  · exact (hv.runsOn hb).trans (closingCheck_runsOn v)

/-- Settles O18: the straps are read by a start alone, and CLASH is cleared by none of the others. -/
theorem onlyStartsChange : Obligations.OnlyStartsChange := fun _ _ _ h hb =>
  have hruns := exec_runsOn h hb
  ⟨hruns.station, hruns.rate, hruns.listenOnly, hruns.clash⟩

/-- Settles O46: each request to the Shift Tally keeps the law, and nothing else touches the figures. -/
theorem unweighedWithinCycles : Obligations.UnweighedWithinCycles := fun _ _ t h hb hu hcycles =>
  (unweighedLaw_iff t.tally).1 ((exec_runsOn h hb).unweighed ((unweighedLaw_iff _).2 ⟨hu, hcycles⟩))

/-! ## The array (R186) -/

theorem startPart_store (straps : Straps) (s : State) : (startPart straps s).journal.store = s.journal.store :=
  (afterRestore_store _).trans (scan_store _)

theorem enterClosing_store (s : State) : (enterClosing s).journal.store = s.journal.store := by
  obtain ⟨u, v, hjournal, -, -, -, -, hkeeps, heq⟩ := enterClosing_of_left s
  calc (enterClosing s).journal.store = v.journal.store := by rw [heq]; rfl
    _ = u.journal.store := hkeeps.journal.store
    _ = s.journal.store := by rw [hjournal]

theorem enterRun_store (s : State) : (enterRun s).journal.store = s.journal.store := by
  unfold enterRun
  rw [startAccess_frame, weigherLeavesOff_eq]
  exact (overdueTest_keeps _).journal.store

theorem enterService_store (s : State) : (enterService s).journal.store = s.journal.store := by
  unfold enterService
  rw [startAccess_frame]
  exact (overdueTest_keeps _).journal.store

theorem endJoin_store (s : State) : (endJoin s).journal.store = s.journal.store := by
  unfold endJoin
  dsimp only
  split
  · exact enterClosing_store _
  · split
    · exact enterService_store _
    · exact enterRun_store _

theorem Act.worked (h : Act c s t) : s.journal.Worked t.journal := by
  have hheld : s.journal.Worked (holdReset s).journal := by
    unfold holdReset
    split
    · exact .of_store rfl
    · exact cut_worked _ _
  cases h with
  | ordinary h => exact .of_store h.toKeeps.journal.store
  | release straps =>
    have hstore : (releaseReset straps s).journal.store = (holdReset s).journal.store := startPart_store _ _
    exact ⟨hstore ▸ hheld.form, hstore ▸ hheld.outside, hstore ▸ hheld.falls⟩
  | hold => exact hheld
  | join => exact .of_store (startFrame_ordinary s).journal.store
  | restart straps => exact .of_store (startPart_store _ _)
  | beat => rw [beat_frame]; exact .of_store rfl
  | second => exact .of_store (secondPasses_keeps s).journal.store
  | edge | access | slot | lockout => exact .of_store rfl

theorem CheckedAct.worked (h : CheckedAct c s v) : s.journal.Worked v.journal := by
  cases h with
  | close => exact .of_store (enterClosing_store _)
  | start straps => exact .of_store (startPart_store _ _)
  | endJoin => exact .of_store (endJoin_store s)
  | receive chars => rw [receive_frame]; exact .of_store rfl
  | dispatch => exact .of_store (takeTelegram_keeps _ _).journal.store
  | collided => rw [collide_frame]; exact .of_store rfl
  | work hk h =>
    have hstore := h.toKeeps.journal.store
    exact ⟨hstore ▸ hk.worked.form, hstore ▸ hk.worked.outside, hstore ▸ hk.worked.falls⟩
  | nothing | level | sent => exact .of_store rfl

/-- Settles O57: an end of array work reaches the words of its own record or sector, a loss of power cuts those two, and
no other command touches the array. -/
theorem onlyTwoOperationsChangeTheArray : Obligations.OnlyTwoOperationsChangeTheArray := by
  intro c s t a hwf h ha
  have hworked : s.journal.Worked t.journal := by
    rcases exec_does h with hact | ⟨v, hv, rfl⟩
    · exact hact.worked
    · rw [(closingCheck_keeps v).1]
      exact hv.worked
  exact ⟨fun hp => hworked.outside hwf a hp ha, hworked.falls hwf a ha⟩

/-! ## The queue of commands -/

theorem enterClosing_pending (s : State) : (enterClosing s).pending = s.pending := by rw [enterClosing_frame]

theorem enterRun_pending (s : State) : (enterRun s).pending = s.pending := by
  unfold enterRun
  rw [startAccess_frame, weigherLeavesOff_eq]
  exact (overdueTest_keeps _).pending

theorem enterService_pending (s : State) : (enterService s).pending = s.pending := by
  unfold enterService
  rw [startAccess_frame]
  exact (overdueTest_keeps _).pending

theorem endJoin_pending (s : State) : (endJoin s).pending = s.pending := by
  unfold endJoin
  dsimp only
  split
  · exact enterClosing_pending _
  · split
    · exact enterService_pending _
    · exact enterRun_pending _

theorem Act.pending (h : Act c s t) : t.pending = s.pending := by
  have hheld : (holdReset s).pending = s.pending := by
    unfold holdReset
    split <;> rfl
  cases h with
  | ordinary h => exact h.pending
  | release straps => exact hheld
  | hold => exact hheld
  | join => exact (startFrame_ordinary s).pending
  | beat => rw [beat_frame]
  | second => exact (secondPasses_keeps s).pending
  | edge | restart | access | slot | lockout => rfl

theorem CheckedAct.pending (h : CheckedAct c s v) : v.pending = s.pending := by
  cases h with
  | close => exact enterClosing_pending _
  | endJoin => exact endJoin_pending s
  | receive chars => rw [receive_frame]
  | dispatch => exact (takeTelegram_keeps _ _).pending
  | collided => rw [collide_frame]
  | work hk h => exact h.pending
  | nothing | level | start | sent => rfl

theorem closingCheck_pending (v : State) : (closingCheck v).pending = v.pending := by
  rcases closingCheck_cases v with h | ⟨-, -, -, -, h⟩ <;> rw [h]; rfl

theorem whilePowered_completes (s : State) (f : State → State) : ∃ t, whilePowered s f = .next t := by
  unfold whilePowered
  split
  · exact ⟨_, rfl⟩
  · exact ⟨_, rfl⟩

/-- No command stops the part: three act at any time, the others while the part is powered. -/
theorem exec_completes (c : Instr) (s : State) : ∃ t, exec c s = .next t := by
  cases c
  case powerOn | resetLineLow | resetLineRelease | keySwitchEdge => exact ⟨_, rfl⟩
  all_goals
    dsimp only [exec, execKeySwitchLevelChange, execTelegramReceived, execDispatch, execDumpEvent, execCommitReport,
      execLockoutExpiry, execJournalRecordWritten, execReadServed, execProgramFailure, execEraseDone, execEraseFailed]
    exact whilePowered_completes s _

/-- Settles O3: every command answers a next state, and each sort of command leaves the queue. -/
theorem everyCommandCompletes : Obligations.EveryCommandCompletes := by
  intro c s
  obtain ⟨t, ht⟩ := exec_completes c s
  refine ⟨t, ht, ?_⟩
  rcases exec_does ht with ha | ⟨v, hv, rfl⟩
  · exact ha.pending
  · exact (closingCheck_pending v).trans hv.pending

end Sys2Proof.Machine
end

section
/-! PROOFS. The shift changes only where the lockout lets it (R151, R154), what closing waits for (R224), and what a
step and a reset are. -/

namespace Sys2Proof.Machine

variable {c : Instr} {s t u v : State}

/-! ## Shift changes (R151, R154, R156) -/

/-- A change of the shift number came about in JOIN, RUN or SERVICE, with the lockout stopped, and started it. -/
def ShiftGuarded (s t : State) : Prop :=
  t.tally.shift ≠ s.tally.shift →
    (s.modeCtl.mode = .join ∨ s.modeCtl.mode = .run ∨ s.modeCtl.mode = .service) ∧
    s.clock.lockout = none ∧ t.clock.timeSet = true ∧ t.clock.lockout = some 3600000

theorem ShiftGuarded.of_same (h : t.tally.shift = s.tally.shift) : ShiftGuarded s t := fun hne => absurd h hne

/-- Before a guarded change the mode may have moved among the three, and the clock but for the lockout. -/
theorem ShiftGuarded.after (h : ShiftGuarded u t) (hshift : u.tally.shift = s.tally.shift)
    (hlockout : u.clock.lockout = s.clock.lockout)
    (hmode : u.modeCtl.mode = .join ∨ u.modeCtl.mode = .run ∨ u.modeCtl.mode = .service →
      s.modeCtl.mode = .join ∨ s.modeCtl.mode = .run ∨ s.modeCtl.mode = .service) : ShiftGuarded s t := fun hne => by
  obtain ⟨hm, hl, htime, hset⟩ := h (hshift ▸ hne)
  exact ⟨hmode hm, hlockout ▸ hl, htime, hset⟩

/-- After it neither the shift number nor the clock may move. -/
theorem ShiftGuarded.before (h : ShiftGuarded s u) (hshift : t.tally.shift = u.tally.shift) (hclock : t.clock = u.clock) :
    ShiftGuarded s t := fun hne => by
  obtain ⟨hm, hl, htime, hset⟩ := h (hshift ▸ hne)
  exact ⟨hm, hl, hclock ▸ htime, hclock ▸ hset⟩

theorem mayRaiseChange_iff (s : State) : mayRaiseChange s = true ↔
    (s.modeCtl.mode = .join ∨ s.modeCtl.mode = .run ∨ s.modeCtl.mode = .service) ∧
      s.clock.timeSet = true ∧ s.clock.lockout = none := by
  simp [mayRaiseChange, or_assoc, and_assoc]

/-- A shift change starts the lockout and leaves the rest of the clock (R154, R156). -/
theorem ShiftChanged.clock (h : ShiftChanged s t) : t.clock = { s.clock with lockout := some 3600000 } := by
  cases hh : headHoldsPass s with
  | false => rw [h.1 hh]
  | true =>
    cases he : s.trucks.entries with
    | nil => simp [headHoldsPass, he] at hh
    | cons e back =>
      have hp : e.passes ≠ [] := by simpa [headHoldsPass, he] using hh
      rw [h.2 e back he hp]

theorem changeFound_guarded (s : State) : ShiftGuarded s (changeFound s) := by
  rcases changeFound_cases s with ⟨hmay, hchanged⟩ | ⟨-, hsame⟩
  · obtain ⟨hmode, htime, hlockout⟩ := (mayRaiseChange_iff s).1 hmay
    exact fun _ => ⟨hmode, hlockout, by rw [hchanged.clock, htime], by rw [hchanged.clock]⟩
  · rw [hsame]
    exact .of_same rfl

theorem overdueTest_guarded (s : State) : ShiftGuarded s (overdueTest s) := by
  unfold overdueTest
  split
  · exact changeFound_guarded s
  · exact .of_same rfl

theorem secondPasses_guarded (s : State) : ShiftGuarded s (secondPasses s) := by
  unfold secondPasses
  dsimp only
  split
  · exact (changeFound_guarded _).after rfl rfl id
  · exact .of_same rfl

theorem takeValidTime_guarded (c : Calendar) (s : State) : ShiftGuarded s (takeValidTime c s) := by
  have hcorrected (b : Bool) (d : Int) :
      Ordinary (stepCalendar c b s)
        (if s.clock.timeSet then stepCalendar c b s else correctOpenTime d (stepCalendar c b s)) :=
    .ite (fun _ => .refl _) fun _ => correctOpenTime_ordinary _ _
  unfold takeValidTime
  dsimp only
  have hstep := hcorrected (decide (2 < ((c.toSeconds : Int) - stampNow s).natAbs)) (c.toSeconds - stampNow s)
  split
  · refine (changeFound_guarded _).after hstep.shift ?_ ?_
    · rw [hstep.clock]; rfl
    · rw [hstep.modeCtl]; exact id
  · exact .of_same hstep.shift

theorem takeTime_guarded (c : Calendar) (s : State) : ShiftGuarded s (takeTime c s) := by
  unfold takeTime
  split
  · split
    · exact takeValidTime_guarded c s
    · exact .of_same rfl
  · exact .of_same rfl

theorem takeTelegram_guarded (r : RxTelegram) (s : State) : ShiftGuarded s (takeTelegram r s) := by
  by_cases hr : r.kind.channel = some .time
  · unfold takeTelegram takeChannelTelegram
    have hset := setProducers_ordinary ((s.prod.hear r.sender).take .time r.sender r.seq r.data).1 s
    simp only [hr]
    split
    · refine ShiftGuarded.after (u := setProducers _ s) ?_ hset.shift (by rw [hset.clock]) (by rw [hset.modeCtl]; exact id)
      show ShiftGuarded _ (useTime _ _ _)
      unfold useTime
      split
      · exact takeTime_guarded _ _
      · exact .of_same rfl
    · exact .of_same hset.shift
  · exact .of_same (takeTelegram_ordinary hr s).shift

theorem closingSteps_shift (s : State) :
    (takeSnapshot (keyOffClose (closingDiscard (weigherOff s)))).tally.shift = s.tally.shift :=
  calc (takeSnapshot (keyOffClose (closingDiscard (weigherOff s)))).tally.shift
      = (weigherOff s).tally.shift :=
        (((closingDiscard_ordinary _).trans (keyOffClose_ordinary _)).trans (takeSnapshot_ordinary _)).shift
    _ = s.tally.shift := by rw [weigherOff_eq]

theorem enterClosing_shift (s : State) : (enterClosing s).tally.shift = s.tally.shift := by
  refine (closingSteps_shift _).trans ?_
  rw [leaveService_frame]
  rfl

theorem ShiftGuarded.startAccess (h : ShiftGuarded s u) : ShiftGuarded s (startAccess u) := by
  rw [startAccess_frame]
  exact h.before rfl rfl

theorem enterRun_guarded (h : s.modeCtl.mode = .join) : ShiftGuarded s (enterRun s) := by
  unfold enterRun
  rw [weigherLeavesOff_eq]
  refine ShiftGuarded.startAccess ?_
  exact (overdueTest_guarded _).after rfl rfl fun _ => .inl h

theorem enterService_guarded (h : s.modeCtl.mode = .join) : ShiftGuarded s (enterService s) := by
  unfold enterService
  refine ShiftGuarded.startAccess ?_
  exact (overdueTest_guarded _).after rfl rfl fun _ => .inl h

theorem endJoin_guarded (h : s.modeCtl.mode = .join) : ShiftGuarded s (endJoin s) := by
  unfold endJoin
  dsimp only
  split
  · exact .of_same (enterClosing_shift _)
  · split
    · exact (enterService_guarded (by exact h)).after rfl rfl id
    · exact (enterRun_guarded (by exact h)).after rfl rfl id

theorem Act.guarded (h : Act c s t) (hb : beginsStart c s = false) : ShiftGuarded s t := by
  cases h with
  | ordinary h => exact .of_same h.shift
  | release straps hc hb' => rw [hb] at hb'; cases hb'
  | hold =>
    unfold holdReset
    split <;> exact .of_same rfl
  | join => exact .of_same (startFrame_ordinary s).shift
  | restart straps h hb' => rw [hb] at hb'; cases hb'
  | beat => rw [beat_frame]; exact .of_same rfl
  | second => exact secondPasses_guarded s
  | edge | access | slot | lockout => exact .of_same rfl

theorem CheckedAct.guarded (h : CheckedAct c s v) (hb : beginsStart c s = false) : ShiftGuarded s v := by
  cases h with
  | close => exact .of_same (enterClosing_shift _)
  | start straps h hb' => rw [hb] at hb'; cases hb'
  | endJoin h => exact endJoin_guarded h
  | receive chars => rw [receive_frame]; exact .of_same rfl
  | dispatch => exact (takeTelegram_guarded _ _).after rfl rfl id
  | collided => rw [collide_frame]; exact .of_same rfl
  | work hk h => exact .of_same h.shift
  | nothing | level | sent => exact .of_same rfl

/-- Settles O45: a shift changes through `changeFound` alone, which looks at mode, time-set and lockout. -/
theorem shiftChangesAreLockedOut : Obligations.ShiftChangesAreLockedOut := by
  intro c s t h hb
  rcases exec_does h with ha | ⟨v, hv, rfl⟩
  · exact ha.guarded hb
  · obtain ⟨-, htally, hclock, -⟩ := closingCheck_keeps v
    exact (hv.guarded hb).before (by rw [htally]) hclock

/-! ## What closing waits for (R224) -/

theorem closingOver_iff (s : State) : s.closingOver = true ↔
    s.modeCtl.mode = .closing ∧ s.journal.drainAsked = true ∧ s.journal.drained = true ∧ s.line.access ≠ .send := by
  simp [State.closingOver, and_assoc]

/-- An operation of the blocks does not end closing. -/
theorem Keeps.not_over (h : Keeps s t) (hs : s.closingOver = false) : t.closingOver = false := by
  refine Bool.eq_false_iff.2 fun ht => ?_
  rw [closingOver_iff, h.modeCtl, h.journal.drainAsked, h.line.access] at ht
  obtain ⟨hmode, hasked, hdrained, haccess⟩ := ht
  exact Bool.eq_false_iff.1 hs ((closingOver_iff s).2 ⟨hmode, hasked, h.journal.undrained hdrained, haccess⟩)

theorem not_over_of_mode (h : s.modeCtl.mode ≠ .closing) : s.closingOver = false :=
  Bool.eq_false_iff.2 fun hs => h ((closingOver_iff s).1 hs).1

/-- Where the journal and the mode keep, and a transmission in progress stays one, closing is not over. -/
theorem not_over_of_access (hmode : t.modeCtl.mode = s.modeCtl.mode) (hjournal : t.journal = s.journal)
    (haccess : s.line.access = .send → t.line.access = .send) (hs : s.closingOver = false) : t.closingOver = false := by
  refine Bool.eq_false_iff.2 fun ht => ?_
  rw [closingOver_iff, hmode, hjournal] at ht
  obtain ⟨hmode, hasked, hdrained, hsend⟩ := ht
  exact Bool.eq_false_iff.1 hs ((closingOver_iff s).2 ⟨hmode, hasked, hdrained, fun h => hsend (haccess h)⟩)

theorem beat_access (s : State) : (beat s).line.access = s.line.access := by
  unfold beat
  dsimp only
  split
  · rfl
  · exact (transmit_ordinary _ _ _).line.access

/-- A command that does not look at closing does not end it, but for a reset. -/
theorem Act.not_over (h : Act c s t) (hc : isReset c = false) (hlow : c ≠ .resetLineLow) (hs : s.closingOver = false) :
    t.closingOver = false := by
  cases h with
  | ordinary h => exact h.not_over hs
  | release straps hr => simp [hr] at hc
  | hold h => exact absurd h hlow
  | edge h => exact not_over_of_access h.mode rfl id hs
  | join => exact not_over_of_mode (by simp [enterJoin])
  | restart => exact not_over_of_mode (by simp [startPart, clearBlocks, scanAndRestore, readStraps])
  | access n _ hsend => exact not_over_of_access (s := s) rfl rfl (fun h => absurd h hsend) hs
  | slot h => exact not_over_of_access (s := s) rfl rfl (fun h' => by rw [h] at h'; cases h') hs
  | beat => exact not_over_of_access (by rw [beat_frame]) (by rw [beat_frame]) (fun h => (beat_access s).trans h) hs
  | second => exact (secondPasses_keeps s).not_over hs
  | lockout => exact hs

/-- In CLOSING a command that looks at closing leaves the mode to it. -/
theorem CheckedAct.closing (h : CheckedAct c s v) (hs : s.modeCtl.mode = .closing) : v.modeCtl.mode = .closing := by
  cases h with
  | level h => exact h.mode.trans hs
  | close h hm => rw [enterClosing_modeCtl]
  | start straps h => rw [hs] at h; cases h
  | endJoin h => rw [hs] at h; cases h
  | receive chars => rw [receive_frame]; exact hs
  | dispatch => rw [(takeTelegram_keeps _ _).modeCtl]; exact hs
  | collided => rw [collide_frame]; exact hs
  | work hk h => rw [h.modeCtl]; exact hs
  | nothing | sent => exact hs

/-- A plain act in CLOSING other than a reset leaves the part there. -/
theorem Act.closing (h : Act c s t) (hc : isReset c = false) (hs : s.modeCtl.mode = .closing) :
    t.modeCtl.mode = .closing := by
  cases h with
  | ordinary h => rw [h.modeCtl]; exact hs
  | release straps hr => simp [hr] at hc
  | hold =>
    unfold holdReset
    split <;> exact hs
  | edge h => exact h.mode.trans hs
  | join h => rw [hs] at h; cases h
  | restart straps h => rw [hs] at h; cases h
  | beat => rw [beat_frame]; exact hs
  | second => rw [(secondPasses_keeps s).modeCtl]; exact hs
  | access | slot | lockout => exact hs

/-- Where the check finds closing over, the entry actions of STANDBY have been taken. -/
theorem enteredStandby_of_over (h : v.closingOver = true) : EnteredStandby (closingCheck v) := by
  obtain ⟨-, hasked, hdrained, -⟩ := (closingOver_iff v).1 h
  rw [closingCheck_eq, if_pos h]
  exact ⟨rfl, hasked, hdrained⟩

/-- In CLOSING, closing not over, a command ends it or leaves the part in it. -/
theorem closing_goes_on (hs : s.modeCtl.mode = .closing) (hover : s.closingOver = false) (hc : isReset c = false)
    (hlow : c ≠ .resetLineLow) (h : exec c s = .next t) :
    EnteredStandby t ∨ (t.modeCtl.mode = .closing ∧ t.closingOver = false) := by
  rcases exec_does h with ha | ⟨v, hv, rfl⟩
  · exact .inr ⟨ha.closing hc hs, ha.not_over hc hlow hover⟩
  · cases hv' : v.closingOver with
    | true => exact .inl (enteredStandby_of_over hv')
    | false => rw [closingCheck_of_not_over hv']; exact .inr ⟨hv.closing hs, hv'⟩

/-! ## A step, and reset -/

/-- Settles O1: by the definition of a step. -/
theorem stepRunsFront : Obligations.StepRunsFront := fun _ _ _ => rfl

theorem advance_of_low (h : s.pins.resetLow = true) : advance s = s := by simp [advance, h]

theorem dueEvent_of_low (h : s.pins.resetLow = true) : dueEvent s = none := by simp [dueEvent, h]

theorem step_of_idle (h : s.pending = []) : step s = idle s := by simp [step, h]

/-- Settles O2: an empty queue leaves the step to the timebase, which rests while the reset line is low. -/
theorem stepIdles : Obligations.StepIdles := by
  intro s hs
  rw [step_of_idle hs]
  refine ⟨fun c hc => by simp [idle, hc], fun hc => by simp [idle, hc], fun hlow => ?_⟩
  simp [idle, dueEvent_of_low hlow, advance_of_low hlow]

/-- Settles O4: the start values, field by field. -/
theorem resetValues : Obligations.ResetValues := by
  refine ⟨?_, ?_, ?_, ?_, ?_, ?_, ?_, ?_, ?_, ?_, ?_, ?_, ?_, ?_, ?_, ?_, ?_, ?_, ?_, ?_, ?_, ?_, ?_, ?_, ?_, ?_, ?_,
    ?_, ?_, ?_, ?_, ?_, ?_, ?_, ?_, ?_, ?_, ?_⟩
  case refine_16 => intro ch id; cases ch <;> cases id <;> exact ⟨rfl, rfl⟩
  all_goals rfl

/-- Settles O60: the reset state is a start from an erased array. -/
theorem resetIsSafe : Obligations.ResetIsSafe := by
  refine ⟨reset_store_wf, ?_, ?_, ?_, ?_, ?_⟩
  all_goals decide

end Sys2Proof.Machine
end

section
/-! PROOFS. The supply, the reset line and the key switch (R220, R221, R225, R226). -/

namespace Sys2Proof.Machine

variable {s : State}

/-! ## The reset line -/

theorem holdReset_of_high (hpow : s.pins.resetLow = false) :
    holdReset s = { s with
      pins := { s.pins with resetLow := true },
      journal := s.journal.cut s.freeCount,
      display := { s.display with port := .free, image := [] },
      line := { s.line with
        access := .silent, listening := false,
        queue := s.line.queue.map (fun t => { t with sending := false }) },
      freeCount := s.freeCount + 1 } := by
  simp [holdReset, hpow, useFree, stopSending]

theorem holdReset_of_low (hlow : s.pins.resetLow = true) : holdReset s = s := by simp [holdReset, hlow]

/-- While the line is low a command that runs under power does nothing (R226). -/
theorem whilePowered_of_low (hlow : s.pins.resetLow = true) (f : State → State) : whilePowered s f = .next s := by
  simp [whilePowered, hlow]

/-- Settles O5: the line going low is `holdReset`, and while it is low every other command finds the part unpowered. -/
theorem resetLineHoldsThePart : Obligations.ResetLineHoldsThePart := by
  refine ⟨fun s hpow => congrArg _ (holdReset_of_high hpow), fun c s hlow hc hedge => ?_⟩
  cases c with
  | powerOn => cases hc
  | resetLineRelease => cases hc
  | resetLineLow => exact congrArg _ (holdReset_of_low hlow)
  | keySwitchEdge high => exact absurd rfl (hedge high)
  | _ =>
    dsimp only [exec, execKeySwitchLevelChange, execTelegramReceived, execDispatch, execDumpEvent, execCommitReport,
      execLockoutExpiry, execJournalRecordWritten, execReadServed, execProgramFailure, execEraseDone, execEraseFailed]
    exact whilePowered_of_low hlow _

/-! ## Starts -/

theorem isListenOnly_eq (straps : Straps) :
    isListenOnly straps = (straps.station == 0#5 || straps.station == 31#5) := by
  have (w : BitVec 5) : (w.toNat == 0 || w.toNat == 31) = (w == 0#5 || w == 31#5) := by
    rw [Bool.eq_iff_iff]
    simp [← BitVec.toNat_inj]
  exact this straps.station

/-- What a start leaves (R221). -/
theorem startPart_eq (straps : Straps) (s : State) :
    startPart straps s = { s with
      pins := { s.pins with straps := straps },
      modeCtl := { s.modeCtl with
        mode := .start, keyOn := true, joinTimer := 0, restartPending := false,
        station := stationOf straps, rate := rateOf straps, listenOnly := isListenOnly straps },
      cal := Calibration.restored (Journal.scan s.journal.store).restoredRecord,
      tally := (Journal.scan s.journal.store).restoredShift (stampNow s) s.clock.timeSet,
      journal := (Journal.scan s.journal.store).afterRestore,
      prod := .start, line := .start, trucks := .start, pass := .start, weigher := .start,
      cycle := .start, display := .start s.display.glass, mail := .start,
      clock := { s.clock with lockout := none, refusedTimes := 0 } } := rfl

/-- A release from a held reset starts the part with the calendar and the key switch as after reset (R226). -/
theorem releaseReset_of_low (straps : Straps) (hlow : s.pins.resetLow = true) :
    releaseReset straps s = startPart straps { s with
      pins := { s.pins with resetLow := false },
      modeCtl := { s.modeCtl with stability := 0 },
      clock := .afterReset } := by
  rw [releaseReset, holdReset_of_low hlow]

/-- The calendar after reset stands at the stamp 0 (R146). -/
theorem afterReset_toSeconds : Calendar.afterReset.toSeconds = 0 := by decide

/-- Settles O6: a release is a start from the array as it stands. -/
theorem releaseStartsThePart : Obligations.ReleaseStartsThePart := by
  intro straps c s hc hlow
  have hexec : exec c s = .next (releaseReset straps s) := by
    obtain rfl | rfl := hc <;> rfl
  refine ⟨_, hexec, ?_⟩
  rw [releaseReset_of_low straps hlow, startPart_eq]
  have hstore := (afterRestore_store (Journal.scan s.journal.store)).trans (scan_store _)
  exact ⟨rfl, rfl, rfl, rfl, rfl, rfl, isListenOnly_eq straps, rfl, rfl, rfl, rfl, rfl, rfl, rfl, rfl, rfl, rfl, rfl,
    rfl, rfl, rfl, congrArg (fun n => (Journal.scan s.journal.store).restoredShift n false) afterReset_toSeconds, hstore,
    rfl⟩

/-! ## The key switch -/

/-- The state with the key-switch level taken and its pin following (R220, log entry 29). -/
def levelTaken (on : Bool) (s : State) : State :=
  { s with
    pins := { s.pins with keySwitchHigh := on },
    modeCtl := { s.modeCtl with keyOn := on, stability := 0 } }

/-- A change of the key-switch level acts by the mode (R220). -/
theorem exec_keySwitchLevelChange {on : Bool} (straps : Straps) (hpow : s.pins.resetLow = false)
    (hkey : s.modeCtl.keyOn = !on) :
    exec (.keySwitchLevelChange on straps) s = .next (closingCheck
      (if on then keyTurnedOn straps (levelTaken on s) else keyTurnedOff (levelTaken on s))) := by
  have hne : on ≠ s.modeCtl.keyOn := by rw [hkey]; cases on <;> simp
  rw [show exec (.keySwitchLevelChange on straps) s = .next (closingCheck (takeKeyLevel on straps s)) from
    whilePowered_of_high hpow (fun s => closingCheck (takeKeyLevel on straps s))]
  simp only [takeKeyLevel, if_neg hne]
  rfl

/-- Settles O7: both ways begin the same start, and before the blank frame a key-on only marks it. -/
theorem keyOnStartsFromStandby : Obligations.KeyOnStartsFromStandby := by
  intro straps s hpow hmode
  refine ⟨fun c hc hblank => ?_, fun hkey hblank => ?_⟩
  · obtain ⟨p, m, hexec⟩ : ∃ p m, exec c s = .next (startPart straps { s with pins := p, modeCtl := m }) := by
      obtain ⟨rfl, hkey⟩ | ⟨rfl, hpending⟩ := hc
      · refine ⟨(levelTaken true s).pins, (levelTaken true s).modeCtl, ?_⟩
        rw [exec_keySwitchLevelChange (on := true) straps hpow hkey, closingCheck_of_ne]
        · simp [keyTurnedOn, levelTaken, hmode, hblank]
        · simp [keyTurnedOn, levelTaken, hmode, hblank, startPart_eq]
      · refine ⟨s.pins, s.modeCtl, ?_⟩
        show whilePowered s _ = _
        rw [whilePowered_of_high hpow, if_pos ⟨hmode, hpending, hblank⟩]
    have hstore := startPart_store straps { s with pins := p, modeCtl := m }
    exact ⟨_, hexec, rfl, rfl, rfl, rfl, rfl, rfl, rfl, rfl, rfl, rfl, rfl, rfl, rfl, rfl, hstore⟩
  · rw [exec_keySwitchLevelChange (on := true) straps hpow hkey, closingCheck_of_ne]
    · simp [keyTurnedOn, levelTaken, hmode, hblank, setRestartPending]
    · simp [keyTurnedOn, levelTaken, hmode, hblank, setRestartPending]

/-- Settles O8: an edge restarts the watch, and outside RUN and SERVICE a level is kept, or marks a restart. -/
theorem keySwitchIsWatched : Obligations.KeySwitchIsWatched := by
  refine ⟨fun _ _ => rfl, fun on straps s hpow hkey => ⟨fun hmode => ?_, fun hmode hover => ?_⟩⟩
  · have hkept : (if on then keyTurnedOn straps (levelTaken on s) else keyTurnedOff (levelTaken on s)) =
        levelTaken on s := by
      obtain hm | hm | ⟨hm, rfl⟩ := hmode
      · cases on <;> simp [keyTurnedOn, keyTurnedOff, levelTaken, hm]
      · cases on <;> simp [keyTurnedOn, keyTurnedOff, levelTaken, hm]
      · simp [keyTurnedOff, levelTaken, hm]
    rw [exec_keySwitchLevelChange straps hpow hkey, hkept, closingCheck_of_ne]
    · rfl
    · obtain hm | hm | ⟨hm, -⟩ := hmode <;> simp [levelTaken, hm]
  · have hmarked : (if on then keyTurnedOn straps (levelTaken on s) else keyTurnedOff (levelTaken on s)) =
        setRestartPending on (levelTaken on s) := by
      cases on <;> simp [keyTurnedOn, keyTurnedOff, levelTaken, hmode]
    rw [exec_keySwitchLevelChange straps hpow hkey, hmarked, closingCheck_of_not_over]
    · rfl
    · refine Bool.eq_false_iff.2 fun h => ?_
      obtain ⟨-, hasked, hdrained, hsend⟩ := (closingOver_iff _).1 h
      obtain hover | hover | hover := hover
      · exact Bool.false_ne_true (hover.symm.trans hasked)
      · exact Bool.false_ne_true (hover.symm.trans hdrained)
      · exact hsend hover

end Sys2Proof.Machine
end

section
/-! PROOFS. Key-off and the end of JOIN (R222, R224). -/

namespace Sys2Proof.Machine

variable {s : State}

/-! ## Closing (R224) -/

theorem leaveService_display (s : State) : ∃ b, (leaveService s).display = { s.display with stale := b } := by
  unfold leaveService closeCapture
  split
  · split
    · exact ⟨s.display.stale, rfl⟩
    · exact ⟨true, rfl⟩
  · exact ⟨s.display.stale, rfl⟩

theorem leaveService_cal (s : State) :
    (leaveService s).cal.active = s.cal.active ∧ (leaveService s).cal.working = s.cal.working := by
  unfold leaveService closeCapture
  split
  · split <;> exact ⟨rfl, rfl⟩
  · exact ⟨rfl, rfl⟩

theorem weigherOff_display (s : State) : ∃ b, (weigherOff s).display = { s.display with stale := b } := by
  unfold weigherOff
  split
  · exact ⟨true, rfl⟩
  · exact ⟨s.display.stale, rfl⟩

theorem closingDiscard_display (s : State) : ∃ b, (closingDiscard s).display = { s.display with stale := b } := by
  unfold closingDiscard
  split
  · exact ⟨true, rfl⟩
  · exact ⟨s.display.stale, rfl⟩

/-- A part at step 2 of closing: it has left its mode, the Weigher is OFF and no pass is pending (R56, R176, R224). -/
def closingBegun (stale : Bool) (s : State) : State :=
  { s with
    modeCtl := { s.modeCtl with mode := .closing },
    weigher := { s.weigher with state := .off, acc := .cleared },
    pass := { s.pass with pending := none },
    mail := { s.mail with resolutions := s.mail.resolutions + (if s.pass.pending.isSome then 1 else 0) },
    cal := (leaveService s).cal,
    display := { s.display with deleteHold := none, stale := stale } }

theorem enterClosing_eq (s : State) :
    ∃ b, enterClosing s = askDrain (takeSnapshot (keyOffClose (closingBegun b s))) := by
  obtain ⟨b1, h1⟩ := leaveService_display s
  obtain ⟨b2, h2⟩ := weigherOff_display
    { stopHold (leaveService s) with modeCtl := { (stopHold (leaveService s)).modeCtl with mode := .closing } }
  obtain ⟨b3, h3⟩ := closingDiscard_display (weigherOff
    { stopHold (leaveService s) with modeCtl := { (stopHold (leaveService s)).modeCtl with mode := .closing } })
  refine ⟨b3, ?_⟩
  unfold enterClosing
  dsimp only
  rw [closingDiscard_frame, h3, h2, weigherOff_eq, leaveService_frame, stopHold]
  simp only [h1]
  rfl

/-- The figures after the close of key-off (R115, R117). -/
def closingFigures (s : State) : ShiftFigures :=
  { s.tally with trucks := if headHoldsPass s then min 65535 (s.tally.trucks + 1) else s.tally.trucks }

/-- Key-off with no pass in the head (R117). -/
theorem enterClosing_of_empty (h : headHoldsPass s = false) : ∃ b, enterClosing s =
    { closingBegun b s with
      trucks := { s.trucks with entries := [] },
      tally := closingFigures s,
      journal := { (s.journal.append .shiftSnapshot ((closingFigures s).body (stampNow s))).1 with
        drainAsked := true } } := by
  obtain ⟨b, hb⟩ := enterClosing_eq s
  have hhead : headHoldsPass (closingBegun b s) = false := h
  refine ⟨true, hb.trans ?_⟩
  rw [keyOffClose_of_empty hhead, closingFigures, h]
  rfl

/-- Key-off with a head that holds passes (R117). -/
theorem enterClosing_of_cons {e : TruckEntry} {rest : List TruckEntry} (he : s.trucks.entries = e :: rest)
    (hp : e.passes ≠ []) : ∃ b, enterClosing s =
    { closingBegun b s with
      trucks := { s.trucks with entries := [] },
      tally := closingFigures s,
      line := (transmit .truckState
        (truckStateData s.tally.shift e (.closed .keyOff) .none rest.length) s).line,
      journal := { ((s.journal.append .truckClosed
          (truckClosedBody s.tally.shift e .keyOff (stampNow s))).1.append .shiftSnapshot
            ((closingFigures s).body (stampNow s))).1 with drainAsked := true } } := by
  obtain ⟨b, hb⟩ := enterClosing_eq s
  have hhead : headHoldsPass s = true := by simpa [headHoldsPass, he] using hp
  have he' : (closingBegun b s).trucks.entries = e :: rest := he
  refine ⟨true, hb.trans ?_⟩
  rw [keyOffClose_of_cons he' hp, closeHead_of_cons he', closingFigures, hhead, transmit_line, transmit_line]
  rfl

/-- What key-off leaves, whatever the head held. -/
theorem enterClosing_parts (s : State) :
    ∃ b, ∃ l, ∃ j : Journal, enterClosing s = { closingBegun b s with
      trucks := { s.trucks with entries := [] }, tally := closingFigures s, line := l,
      journal := { j with drainAsked := true } } ∧
    s.line.Offered l ∧
    (headHoldsPass s = false → l = s.line ∧
      j = (s.journal.append .shiftSnapshot ((closingFigures s).body (stampNow s))).1) ∧
    (∀ e rest, s.trucks.entries = e :: rest → e.passes ≠ [] →
      j = ((s.journal.append .truckClosed (truckClosedBody s.tally.shift e .keyOff (stampNow s))).1.append
        .shiftSnapshot ((closingFigures s).body (stampNow s))).1) := by
  cases hhead : headHoldsPass s with
  | false =>
    obtain ⟨b, hb⟩ := enterClosing_of_empty hhead
    refine ⟨b, s.line, _, hb, .none, fun _ => ⟨rfl, rfl⟩, fun e rest he hp => absurd hhead ?_⟩
    simpa [headHoldsPass, he] using hp
  | true =>
    match he : s.trucks.entries with
    | [] => simp [headHoldsPass, he] at hhead
    | e :: rest =>
      have hp : e.passes ≠ [] := by simpa [headHoldsPass, he] using hhead
      obtain ⟨b, hb⟩ := enterClosing_of_cons he hp
      refine ⟨b, _, _, hb, (transmit_ordinary _ _ s).line, fun h => by simp at h, fun e' rest' he' _ => ?_⟩
      obtain ⟨rfl, rfl⟩ := List.cons.inj he'
      rfl

theorem LineInterface.Offered.frame_fields {l m : LineInterface} (h : l.Offered m) :
    m.inbox = l.inbox ∧ m.access = l.access ∧ m.listening = l.listening ∧ m.heartbeat = l.heartbeat := by
  rw [h.frame]
  exact ⟨rfl, rfl, rfl, rfl⟩

theorem enterClosing_line (s : State) : s.line.Offered (enterClosing s).line := by
  obtain ⟨b, l, j, heq, hoffered, -⟩ := enterClosing_parts s
  rw [heq]
  exact hoffered

theorem enterClosing_drainAsked (s : State) : (enterClosing s).journal.drainAsked = true := by
  obtain ⟨b, l, j, heq, -⟩ := enterClosing_parts s
  rw [heq]

/-- Key-off ends closing at once where the journal is drained and no transmission is in progress (R224). -/
theorem enterClosing_over (s : State) : (enterClosing s).closingOver = true ↔
    (enterClosing s).journal.drained = true ∧ s.line.access ≠ .send := by
  rw [closingOver_iff, enterClosing_modeCtl, enterClosing_drainAsked, (enterClosing_line s).access]
  exact ⟨fun ⟨_, _, h⟩ => h, fun h => ⟨rfl, rfl, h⟩⟩

theorem not_over_of_waits {v : State} {a : Access} (h : v.closingOver = true ↔ v.journal.drained = true ∧ a ≠ .send)
    (hnot : v.journal.drained = false ∨ a = .send) : v.closingOver = false := by
  refine Bool.eq_false_iff.2 fun hover => ?_
  obtain ⟨hdrained, hsend⟩ := h.1 hover
  obtain hnot | hnot := hnot
  · exact Bool.false_ne_true (hnot.symm.trans hdrained)
  · exact hsend hnot

/-- Entry to STANDBY touches the mode, the line, the working copy and the blank frame that is due (R225). -/
theorem closingCheck_frame (v : State) : closingCheck v = { v with
    modeCtl := (closingCheck v).modeCtl, line := (closingCheck v).line, cal := (closingCheck v).cal,
    display := (closingCheck v).display } := by
  obtain h | ⟨-, -, -, -, h⟩ := closingCheck_cases v
  · rw [h]
  · rw [h]; rfl

theorem closingCheck_keyOn (v : State) : (closingCheck v).modeCtl.keyOn = v.modeCtl.keyOn := by
  obtain h | ⟨-, -, -, -, h⟩ := closingCheck_cases v
  · rw [h]
  · rw [h]; rfl

theorem closingCheck_active (v : State) : (closingCheck v).cal.active = v.cal.active := by
  obtain h | ⟨-, -, -, -, h⟩ := closingCheck_cases v
  · rw [h]
  · rw [h]; rfl

theorem closingCheck_deleteHold (v : State) : (closingCheck v).display.deleteHold = v.display.deleteHold := by
  obtain h | ⟨-, -, -, -, h⟩ := closingCheck_cases v
  · rw [h]
  · rw [h]; rfl

/-- Settles O9: key-off is `enterClosing` with the check at its end, and in CLOSING each sort of command leaves the mode
to that check. -/
theorem keyOffCloses : Obligations.KeyOffCloses := by
  refine ⟨fun straps s hpow hkey hmode => ?_, fun c s t _ hmode hover hc hlow h => closing_goes_on hmode hover hc hlow h⟩
  have hexec : exec (.keySwitchLevelChange false straps) s =
      .next (closingCheck (enterClosing (levelTaken false s))) := by
    rw [exec_keySwitchLevelChange (on := false) straps hpow (by simpa using hkey)]
    obtain hm | hm := hmode <;> simp [keyTurnedOff, levelTaken, hm]
  obtain ⟨b, l, j, heq, hoffered, hempty, hcons⟩ := enterClosing_parts (levelTaken false s)
  obtain ⟨hinbox, haccess, hlistening, hbeat⟩ := hoffered.frame_fields
  obtain ⟨hactive, hworking⟩ := leaveService_cal (levelTaken false s)
  have hjournal : (closingCheck (enterClosing (levelTaken false s))).journal = { j with drainAsked := true } := by
    rw [(closingCheck_keeps _).1, heq]
  have hover : (enterClosing (levelTaken false s)).closingOver = true ↔
      (enterClosing (levelTaken false s)).journal.drained = true ∧ s.line.access ≠ .send :=
    enterClosing_over (levelTaken false s)
  refine ⟨_, hexec, fun hdrained hsend => ?_, fun hnot => ?_, ?_⟩
  · rw [(closingCheck_keeps _).1] at hdrained
    exact enteredStandby_of_over (hover.2 ⟨hdrained, hsend⟩)
  · rw [(closingCheck_keeps _).1] at hnot
    have hstays := not_over_of_waits hover hnot
    rw [closingCheck_of_not_over hstays, heq]
    exact ⟨rfl, hworking, rfl, hinbox, haccess, hlistening, hbeat, fun h => (hempty h).1⟩
  · rw [hjournal]
    have hframe := closingCheck_frame (enterClosing (levelTaken false s))
    have hkey' := closingCheck_keyOn (enterClosing (levelTaken false s))
    have hhold := closingCheck_deleteHold (enterClosing (levelTaken false s))
    have hcal := closingCheck_active (enterClosing (levelTaken false s))
    rw [hframe]
    rw [heq] at hkey' hhold hcal ⊢
    refine ⟨hkey', rfl, rfl, rfl, rfl, rfl, fun h => ?_, fun e rest he hp => ?_, hhold, rfl, hcal.trans hactive, rfl, rfl⟩
    · rw [(hempty h).2]; rfl
    · rw [hcons e rest he hp]; rfl

/-! ## JOIN (R221, R222) -/

/-- The open shift is overdue in the words of R155: an enabled point has occurred since it opened. -/
def Overdue (s : State) : Prop :=
  s.clock.timeSet = true ∧ s.tally.openTimeSet = true ∧ s.tally.openTime ≤ stampNow s ∧
    ∃ point ∈ [s.cal.active.point1, s.cal.active.point2, s.cal.active.point3], 0 ≤ point ∧
      ∃ day : Int, s.tally.openTime < day * 86400 + point * 60 ∧ day * 86400 + point * 60 ≤ stampNow s

/-- A point has occurred after `old` and up to `now` exactly where its latest occurrence lies after `old`. -/
theorem lt_latestOccurrence_iff (point old now : Int) :
    old < latestOccurrence point now ↔ ∃ day : Int, old < day * 86400 + point * 60 ∧ day * 86400 + point * 60 ≤ now := by
  unfold latestOccurrence occurrencesUpTo
  constructor
  · exact fun h => ⟨(now - point * 60) / 86400, h, by omega⟩
  · rintro ⟨day, hold, hnow⟩
    omega

theorem overdue_iff (s : State) : overdue s = true ↔ Overdue s := by
  simp only [overdue, Overdue, MachineRecord.points, List.any_filter, Bool.and_eq_true, decide_eq_true_eq, and_assoc,
    Nat.cast_le, List.any_eq_true, lt_latestOccurrence_iff]

/-- The overdue test in RUN or SERVICE (R151, R155). -/
theorem overdueTest_of_mode (hmode : s.modeCtl.mode = .run ∨ s.modeCtl.mode = .service) :
    (Overdue s ∧ s.clock.lockout = none → ShiftChanged s (overdueTest s)) ∧
    (¬(Overdue s ∧ s.clock.lockout = none) → overdueTest s = s) := by
  unfold overdueTest
  rw [← overdue_iff]
  constructor
  · rintro ⟨hover, hlockout⟩
    have htime := ((overdue_iff s).1 hover).1
    rw [if_pos hover, changeFound, if_pos ((mayRaiseChange_iff s).2 ⟨.inr hmode, htime, hlockout⟩)]
    exact raiseShiftChange_changed s
  · intro hnot
    split
    · next hover =>
      rw [changeFound, if_neg fun hmay => hnot ⟨hover, ((mayRaiseChange_iff s).1 hmay).2.2⟩]
    · rfl

theorem overdueTest_pins (s : State) : (overdueTest s).pins = s.pins := by
  have hraise (s : State) : (raiseShiftChange s).pins = s.pins := by
    unfold raiseShiftChange shiftChangeClose
    split
    · cases he : s.trucks.entries with
      | nil => simp [closeHead, he]; rfl
      | cons e rest => rw [closeHead_of_cons he]; rfl
    · rfl
  unfold overdueTest changeFound
  repeat' split
  · exact hraise s
  · rfl
  · rfl

theorem exec_heartbeat (hpow : s.pins.resetLow = false) (hbeat : s.line.heartbeat.isSome = true) :
    exec .heartbeat s = .next (beat s) := by
  rw [show exec .heartbeat s = .next (if s.line.heartbeat.isSome then beat s else s) from
    whilePowered_of_high hpow (fun s => if s.line.heartbeat.isSome then beat s else s), if_pos hbeat]

/-- The first HEARTBEAT is composed as at an expiry (R210, R216). -/
theorem startAccess_of_not_muted (hpow : s.pins.resetLow = false) (h : muted s = false) :
    exec .heartbeat { s with line := { s.line with access := .waitIdle, heartbeat := some 1000 } } =
      .next (startAccess s) := by
  rw [exec_heartbeat (by exact hpow) (by rfl)]
  simp only [startAccess, h]
  rfl

theorem startAccess_of_muted (h : muted s = true) : startAccess s = s := by simp [startAccess, h]

theorem exec_joinEnd (hpow : s.pins.resetLow = false) (hmode : s.modeCtl.mode = .join) :
    exec .joinEnd s = .next (closingCheck (endJoin s)) := by
  rw [show exec .joinEnd s = .next (if s.modeCtl.mode = .join then closingCheck (endJoin s) else s) from
    whilePowered_of_high hpow (fun s => if s.modeCtl.mode = .join then closingCheck (endJoin s) else s), if_pos hmode]

theorem exec_join (hpow : s.pins.resetLow = false) (hmode : s.modeCtl.mode = .start) :
    exec .join s = .next (enterJoin (startFrame s)) := by
  rw [show exec .join s = .next (if s.modeCtl.mode = .start then enterJoin (startFrame s) else s) from
    whilePowered_of_high hpow (fun s => if s.modeCtl.mode = .start then enterJoin (startFrame s) else s), if_pos hmode]

/-- A part entering RUN or SERVICE: the overdue test, and then the line (R155, R210, R216). -/
theorem entered (hpow : s.pins.resetLow = false) (hmode : s.modeCtl.mode = .run ∨ s.modeCtl.mode = .service) :
    ∃ u, (Overdue s ∧ s.clock.lockout = none → ShiftChanged s u) ∧ (¬(Overdue s ∧ s.clock.lockout = none) → u = s) ∧
      (muted s = true → startAccess (overdueTest s) = u) ∧
      (muted s = false →
        exec .heartbeat { u with line := { u.line with access := .waitIdle, heartbeat := some 1000 } } =
          .next (startAccess (overdueTest s))) := by
  obtain ⟨hchanged, hsame⟩ := overdueTest_of_mode hmode
  have hmuted := (overdueTest_keeps s).muted_eq
  refine ⟨overdueTest s, hchanged, hsame, fun hm => startAccess_of_muted (hmuted.trans hm), fun hm => ?_⟩
  exact startAccess_of_not_muted (by rw [overdueTest_pins, hpow]) (hmuted.trans hm)

/-- A part on its entry to RUN, before the overdue test (R4, R126). -/
def runEntered (s : State) : State :=
  { s with
    modeCtl := { s.modeCtl with mode := .run },
    weigher := { s.weigher with
      state := if s.cal.active.curves.isNone then .noCal
        else if s.weigher.lastBoom.any (fun v => v < s.cal.active.thetaLo) then .below else .above },
    cycle := { s.cycle with hold := false, timer := 0, timerSub := 0 },
    display := { s.display with stale := s.display.stale || s.cal.active.curves.isNone } }

theorem enterRun_eq (s : State) : enterRun s = startAccess (overdueTest (runEntered s)) := by
  have hside (b : Option Int) (lo : Int) :
      belowOrAbove b lo = if b.any (fun v => v < lo) then .below else .above := by
    cases b <;> simp [belowOrAbove]
  rw [enterRun, weigherLeavesOff_eq]
  simp only [hside]
  rfl

theorem startFrame_of_begun (h : s.display.sinceFrame.isSome = true ∨ s.display.port ≠ .free) : startFrame s = s := by
  unfold startFrame dueFrameFirst
  split
  · next hnone =>
    have hport : s.display.port ≠ .free := h.resolve_left (by simp at hnone; simp [hnone])
    simp [frameDue, hport]
  · rfl

theorem startFrame_of_first (hmode : s.modeCtl.mode = .start) (hnone : s.display.sinceFrame = none)
    (hport : s.display.port = .free) : startFrame s = beginFrame s := by
  simp [startFrame, dueFrameFirst, frameDue, Display.due, hnone, hport, hmode]

/-- A part whose key is off at the end of JOIN closes (R222, R224). -/
theorem joinCloses (s : State) :
    ((closingCheck (enterClosing s)).journal.drained = true → s.line.access ≠ .send →
      EnteredStandby (closingCheck (enterClosing s))) ∧
    ((closingCheck (enterClosing s)).journal.drained = false ∨ s.line.access = .send →
      (closingCheck (enterClosing s)).modeCtl.mode = .closing) ∧
    (closingCheck (enterClosing s)).journal.drainAsked = true ∧
    (closingCheck (enterClosing s)).weigher.state = .off ∧ (closingCheck (enterClosing s)).cycle = s.cycle ∧
    (closingCheck (enterClosing s)).prod = s.prod ∧
    (s.line.access = .silent → (closingCheck (enterClosing s)).line.access = .silent) := by
  have hover := enterClosing_over s
  rw [(closingCheck_keeps _).1]
  refine ⟨fun hdrained hsend => enteredStandby_of_over (hover.2 ⟨hdrained, hsend⟩), fun hnot => ?_, ?_, ?_, ?_, ?_, ?_⟩
  · rw [closingCheck_of_not_over (not_over_of_waits hover hnot), enterClosing_frame]
  · exact enterClosing_drainAsked s
  · rw [closingCheck_frame, enterClosing_frame]
  · rw [closingCheck_frame, enterClosing_frame]
  · rw [closingCheck_frame, enterClosing_frame]
  · intro hsilent
    have haccess := (enterClosing_line s).access.trans hsilent
    rcases closingCheck_cases (enterClosing s) with h | ⟨-, -, -, -, h⟩ <;> rw [h]
    · exact haccess
    · rfl

/-- Settles O10: JOIN begins with the first frame where none has begun, and its end is closing, SERVICE or RUN. -/
theorem joinBeginsAndEnds : Obligations.JoinBeginsAndEnds := by
  refine ⟨fun s hpow hmode => ⟨fun hbegun => ?_, fun hnone hport => ?_⟩, fun s hpow hmode => ?_⟩
  · rw [exec_join hpow hmode, startFrame_of_begun hbegun]
    rfl
  · rw [exec_join hpow hmode, startFrame_of_first hmode hnone hport]
    rfl
  · refine ⟨_, exec_joinEnd hpow hmode, fun hkey => ?_, fun hkey hpressed => ?_, fun hkey hpressed => ?_⟩
    · have hclosing : endJoin s = enterClosing { s with modeCtl := { s.modeCtl with joinTimer := 500 } } := by
        simp [endJoin, hkey]
      rw [hclosing]
      exact joinCloses _
    · have hservice : endJoin s = enterService { s with modeCtl := { s.modeCtl with joinTimer := 500 } } := by
        simp [endJoin, hkey, serviceChosen, hpressed.1, hpressed.2]
      rw [hservice, closingCheck_of_ne (by simp [enterService_mode])]
      exact entered (s := enterServiceCalibration { s with
        modeCtl := { s.modeCtl with joinTimer := 500, mode := .service } }) hpow (.inr rfl)
    · have hrun : endJoin s = enterRun { s with modeCtl := { s.modeCtl with joinTimer := 500 } } := by
        have hnot : serviceChosen s = false := by simpa [serviceChosen] using hpressed
        simp [endJoin, hkey, hnot]
      rw [hrun, closingCheck_of_ne (by simp [enterRun_mode]), enterRun_eq]
      exact entered (s := runEntered { s with modeCtl := { s.modeCtl with joinTimer := 500 } }) hpow (.inl rfl)

end Sys2Proof.Machine
end

section
/-! PROOFS. The Machine Line: what is received, access, the ends of transmissions, HEARTBEAT and the queue (R206 to
R217). -/

namespace Sys2Proof.Machine

variable {s : State}

/-! ## The queue policy (R214, R215) -/

/-- A telegram that enters stands behind those of its class or of an earlier one, and takes the number of its kind. -/
theorem enter_split (l : LineInterface) (k : TxKind) (d : List Word) :
    ∃ front back, l.queue = front ++ back ∧
      l.enter k d = { l with
        queue := front ++ { kind := k, seq := l.sendSeq[k.idx], data := d, attempts := 0, sending := false } :: back,
        sendSeq := l.sendSeq.set k.idx ((l.sendSeq[k.idx] + 1) % 16) } ∧
      (∀ x ∈ front, x.kind.cls ≤ k.cls) ∧ (∀ x ∈ back.head?, k.cls < x.kind.cls) := by
  obtain ⟨front, back, hq, henter, hfront, hback⟩ := enqueue_split l.queue
    { kind := k, seq := l.sendSeq[k.idx], data := d, attempts := 0, sending := false }
  exact ⟨front, back, hq, by rw [LineInterface.enter, henter], hfront, hback⟩

/-- The telegrams of a queue stand in the order of their classes. -/
def ByClass (q : List TxTelegram) : Prop := q.Pairwise (fun x y => x.kind.cls ≤ y.kind.cls)

/-- Entering keeps the order of the classes (R214). -/
theorem enqueue_byClass {q : List TxTelegram} (t : TxTelegram) (h : ByClass q) : ByClass (enqueue q t) := by
  obtain ⟨front, back, rfl, henter, hfront, hback⟩ := enqueue_split q t
  have hlater : ∀ y ∈ back, t.kind.cls ≤ y.kind.cls := by
    cases back with
    | nil => simp
    | cons x rest =>
      have hx : t.kind.cls < x.kind.cls := hback x rfl
      have hrest := (List.pairwise_cons.1 (List.pairwise_append.1 h).2.1).1
      intro y hy
      obtain rfl | hy := List.mem_cons.1 hy
      · exact hx.le
      · exact hx.le.trans (hrest y hy)
  rw [henter]
  obtain ⟨hf, hb, hcross⟩ := List.pairwise_append.1 h
  refine List.pairwise_append.2 ⟨hf, List.pairwise_cons.2 ⟨hlater, hb⟩, fun x hx y hy => ?_⟩
  obtain rfl | hy := List.mem_cons.1 hy
  · exact hfront x hx
  · exact hcross x hx y hy

theorem offer_byClass {l : LineInterface} (k : TxKind) (d : List Word) (h : ByClass l.queue) :
    ByClass (l.offer k d).queue := by
  unfold LineInterface.offer
  split
  · exact enqueue_byClass _ h
  · split
    · exact enqueue_byClass _ (List.Pairwise.sublist List.eraseP_sublist h)
    · exact h

theorem evictable_iff (x : TxTelegram) : x.evictable = true ↔ x.kind.cls = 2 ∧ x.sending = false := by
  simp [TxTelegram.evictable]

/-- Settles O16: with room the newcomer enters; a full queue drops it, or evicts the first that may be. -/
theorem queuePolicy : Obligations.QueuePolicy := by
  intro l k d hlen
  refine ⟨fun hroom => ?_, offer_byClass k d, offer_length k d hlen, fun hfull hnone => ?_, ?_⟩
  · rw [LineInterface.offer, if_pos hroom]
    exact enter_split l k d
  · have hkeeps : (k.cls == 1 && l.queue.any TxTelegram.evictable) = false := by
      obtain hk | hq := hnone
      · simp [hk]
      · rw [Bool.and_eq_false_iff, List.any_eq_false]
        exact .inr fun x hx => by simp [hq x hx]
    rw [LineInterface.offer, if_neg (by omega), hkeeps]
    rfl
  · intro front x back hfull hk hq hfront hx hsend
    have hevict : (k.cls == 1 && l.queue.any TxTelegram.evictable) = true := by
      simp [hk, hq, TxTelegram.evictable, hx, hsend]
    have herase : l.queue.eraseP TxTelegram.evictable = front ++ back := by
      rw [hq, List.eraseP_append_right _ fun y hy => by simpa [evictable_iff] using hfront y hy,
        List.eraseP_cons_of_pos ((evictable_iff x).2 ⟨hx, hsend⟩)]
    rw [LineInterface.offer, if_neg (by omega), if_pos hevict, herase]
    exact enter_split { l with queue := front ++ back, dropped := inc l.dropped } k d

/-! ## Reception (R206, R207, R209, R213) -/

theorem exec_telegramReceived (hpow : s.pins.resetLow = false) (chars : List WireChar) :
    exec (.telegramReceived chars) s = .next (closingCheck (receive chars s)) :=
  whilePowered_of_high hpow (fun s => closingCheck (receive chars s))

/-- A part that is not sending reads every telegram as another's (R206). -/
theorem receive_of_listening (chars : List WireChar) (hlisten : s.line.listening = true)
    (hsend : s.line.access ≠ .send) :
    receive chars s = match checkTelegram chars with
      | .unknown => { s with line := { s.line with unknownKinds := inc s.line.unknownKinds } }
      | .error k =>
        { s with line := { s.line with
            receiveErrors := s.line.receiveErrors.set k.idx (inc s.line.receiveErrors[k.idx]) } }
      | .good t => if t.sender = s.modeCtl.station then setClash s else enterInbox t s := by
  have hown : isOwnTransmission chars s = false := by simp [isOwnTransmission, hsend]
  rw [receive, hlisten, hown]
  rfl

/-- Settles O13: the outcome of the receive checks decides, and closing goes on. -/
theorem telegramsAreTaken : Obligations.TelegramsAreTaken := by
  intro chars s hpow hlisten hsend hover
  have hreceive := receive_of_listening chars hlisten hsend
  have hstays (l : LineInterface) (d : Display) (ha : s.line.access = .send → l.access = .send) :
      closingCheck { s with line := l, display := d } = { s with line := l, display := d } :=
    closingCheck_of_not_over (not_over_of_access (s := s) rfl rfl ha hover)
  rw [exec_telegramReceived hpow]
  refine ⟨fun r hr hother hroom => ?_, fun r hr hother hfull => ?_, fun k hk => ?_, fun hunknown => ?_,
    fun r hr hown hclash => ?_⟩
  · simp only [hreceive, hr, if_neg hother, enterInbox, if_pos hroom]
    exact congrArg _ (hstays _ _ id)
  · simp only [hreceive, hr, if_neg hother, enterInbox, if_neg (not_lt.2 hfull)]
    exact congrArg _ (hstays _ _ id)
  · simp only [hreceive, hk]
    exact congrArg _ (hstays _ _ id)
  · simp only [hreceive, hunknown]
    exact congrArg _ (hstays _ _ id)
  · simp only [hreceive, hr, if_pos hown, setClash, hclash, Bool.false_eq_true, if_false]
    exact congrArg _ (hstays _ _ fun h => absurd h hsend)

/-! ## Access and the ends of transmissions (R210 to R213) -/

theorem exec_idleGap (hpow : s.pins.resetLow = false) (ha : s.line.access = .waitIdle) :
    exec .idleGap s = .next { s with line := { s.line with access := .defer, slotCount := 0 } } :=
  (whilePowered_of_high hpow _).trans (congrArg _ (if_pos ha))

theorem exec_carrier (hpow : s.pins.resetLow = false) (ha : s.line.access = .defer) :
    exec .carrier s = .next { s with line := { s.line with access := .waitIdle } } :=
  (whilePowered_of_high hpow _).trans (congrArg _ (if_pos ha))

theorem exec_deferSlot (hpow : s.pins.resetLow = false) (ha : s.line.access = .defer) :
    exec .deferSlot s = .next (slotEnds s) :=
  (whilePowered_of_high hpow _).trans (congrArg _ (if_pos ha))

theorem exec_transmitSuccess (hpow : s.pins.resetLow = false) (ha : s.line.access = .send) :
    exec .transmitSuccess s = .next (closingCheck (transmissionDone s)) :=
  (whilePowered_of_high hpow _).trans (congrArg _ (if_pos ha))

theorem exec_collision (hpow : s.pins.resetLow = false) (ha : s.line.access = .send) :
    exec .collision s = .next (closingCheck (collide s)) :=
  (whilePowered_of_high hpow _).trans (congrArg _ (if_pos ha))

/-- Closing, as it stands but for the transmission in progress (R224). -/
abbrev ClosingFinished (s : State) : Prop :=
  s.modeCtl.mode = .closing ∧ s.journal.drainAsked = true ∧ s.journal.drained = true

/-- After the end of a transmission closing is over where nothing else held it. -/
theorem closingCheck_ended {u : State} (hmode : u.modeCtl = s.modeCtl)
    (hjournal : u.journal = s.journal) (haccess : u.line.access ≠ .send) :
    closingCheck u = if ClosingFinished s then standbyOf u else u := by
  have hover : u.closingOver = true ↔ ClosingFinished s := by
    rw [closingOver_iff, hmode, hjournal]
    exact ⟨fun ⟨hm, ha, hd, _⟩ => ⟨hm, ha, hd⟩, fun ⟨hm, ha, hd⟩ => ⟨hm, ha, hd, haccess⟩⟩
  rw [closingCheck_eq]
  exact if_congr hover rfl rfl

theorem failed_of_not_sending {q : List TxTelegram} (h : ∀ u ∈ q, u.sending = false) :
    q.filterMap TxTelegram.failed = q := by
  induction q with
  | nil => rfl
  | cons u rest ih =>
    rw [List.filterMap_cons, TxTelegram.failed, h u List.mem_cons_self]
    simp [ih fun v hv => h v (List.mem_cons_of_mem _ hv)]

/-- The front telegram fails and stays, or fails the fourth time and goes (R212). -/
theorem failed_front {t : TxTelegram} {rest : List TxTelegram} (ht : t.sending = true)
    (hrest : ∀ u ∈ rest, u.sending = false) :
    (t :: rest).filterMap TxTelegram.failed =
      if 3 ≤ t.attempts then rest else { t with attempts := t.attempts + 1, sending := false } :: rest := by
  rw [List.filterMap_cons, failed_of_not_sending hrest, TxTelegram.failed, ht]
  simp only [if_true, Nat.succ_le_succ_iff]
  split <;> rename_i h
  · split at h
    · simp_all
    · cases h
  · split at h
    · cases h
    · cases h
      rw [if_neg ‹_›]

theorem anySending_front {t : TxTelegram} {rest : List TxTelegram} (ht : t.sending = true)
    (hrest : ∀ u ∈ rest, u.sending = false) :
    (t :: rest).any (fun u => u.sending && decide (4 ≤ u.attempts + 1)) = decide (3 ≤ t.attempts) := by
  have hnone : rest.any (fun u => u.sending && decide (4 ≤ u.attempts + 1)) = false :=
    List.any_eq_false.2 fun u hu => by simp [hrest u hu]
  rw [List.any_cons, hnone, ht]
  simp

theorem transmissionDone_front {t : TxTelegram} {rest : List TxTelegram} (hq : s.line.queue = t :: rest)
    (ht : t.sending = true) (hrest : ∀ u ∈ rest, u.sending = false) :
    transmissionDone s = { s with line := { s.line with queue := rest, collisions := 0, access := .waitIdle } } := by
  have hkept : rest.filter (fun u => !u.sending) = rest := List.filter_eq_self.2 fun u hu => by simp [hrest u hu]
  rw [transmissionDone, hq, List.filter_cons, ht, hkept]
  rfl

theorem collisionCounted_front {t : TxTelegram} {rest : List TxTelegram} (hq : s.line.queue = t :: rest)
    (ht : t.sending = true) (hrest : ∀ u ∈ rest, u.sending = false) :
    collisionCounted s = { s with line := { s.line with
      access := .waitIdle, attempts := min 65535 (s.line.attempts + 1), collisions := min 3 (s.line.collisions + 1),
      queue := if 3 ≤ t.attempts then rest else { t with attempts := t.attempts + 1, sending := false } :: rest,
      dropped := if 3 ≤ t.attempts then min 65535 (s.line.dropped + 1) else s.line.dropped } } := by
  rw [collisionCounted, hq, anySending_front ht hrest, failed_front ht hrest]
  simp only [decide_eq_true_eq]
  rfl

/-- Settles O14: access moves by the gap, the carrier and the slots; the end of a transmission moves the front
telegram, and the check at its end may close the part. -/
theorem transmissionsBeginAndEnd : Obligations.TransmissionsBeginAndEnd := by
  refine ⟨fun s hpow => ⟨exec_idleGap hpow, exec_carrier hpow, fun ha hq => ?_, fun t rest ha hq hn => ?_,
    fun t rest ha hq hn => ?_⟩, fun t rest s hpow ha hq ht hrest => ?_⟩
  · rw [exec_deferSlot hpow ha]
    simp [slotEnds, hq, ← ha]
  · rw [exec_deferSlot hpow ha]
    have hwaits : ¬deferral t s.modeCtl.station ≤ min 126 (s.line.slotCount + 1) := not_le.2 hn
    simp only [slotEnds, hq, hwaits, decide_false, Bool.false_eq_true, if_false]
    rw [← hq, ← ha]
  · rw [exec_deferSlot hpow ha]
    have hreached : deferral t s.modeCtl.station ≤ min 126 (s.line.slotCount + 1) := hn
    simp only [slotEnds, hq, hreached, decide_true, if_true, markFront]
  · have hcounted := collisionCounted_front hq ht hrest
    refine ⟨?_, fun hn hfew => ?_, fun hn hmany => ?_, fun hn hclash => ?_⟩
    · rw [exec_transmitSuccess hpow ha, transmissionDone_front hq ht hrest]
      exact congrArg _ (closingCheck_ended rfl rfl (by simp))
    · rw [exec_collision hpow ha, collide_eq, if_neg (by omega), hcounted, if_neg (by omega), if_neg (by omega),
        Nat.min_eq_right (by omega)]
      exact congrArg _ (closingCheck_ended rfl rfl (by simp))
    · rw [exec_collision hpow ha, collide_eq, if_neg (by omega), hcounted, if_pos hmany, if_pos hmany,
        Nat.min_eq_right (by omega)]
      exact congrArg _ (closingCheck_ended rfl rfl (by simp))
    · have hdropped : (if 3 ≤ t.attempts then min 65535 (s.line.dropped + 1) else s.line.dropped) =
          if t.attempts < 3 then s.line.dropped else min 65535 (s.line.dropped + 1) := by
        split_ifs <;> omega
      rw [exec_collision hpow ha, collide_eq, if_pos (by omega), hcounted, setClash, if_neg (by simp [hclash]), hdropped,
        Nat.min_eq_left (by omega)]
      exact congrArg _ (closingCheck_ended rfl rfl (by simp))

/-! ## HEARTBEAT (R216, R217) -/

theorem waitingHeartbeat_iff (t : TxTelegram) : t.waitingHeartbeat = true ↔ t.kind = .heartbeat ∧ t.sending = false := by
  simp [TxTelegram.waitingHeartbeat]

/-- The first HEARTBEAT that waits gets the new contents (R216). -/
theorem replaceHeartbeat_first {front back : List TxTelegram} {x : TxTelegram} (d : List Word)
    (hfront : ∀ y ∈ front, y.waitingHeartbeat = false) (hx : x.waitingHeartbeat = true) :
    replaceHeartbeat d (front ++ x :: back) = front ++ { x with data := d } :: back := by
  induction front with
  | nil => simp [replaceHeartbeat, hx]
  | cons y rest ih =>
    rw [List.cons_append, replaceHeartbeat, hfront y List.mem_cons_self, if_neg Bool.false_ne_true,
      ih fun z hz => hfront z (List.mem_cons_of_mem _ hz)]
    rfl

theorem beat_of_waiting {front back : List TxTelegram} {x : TxTelegram} (hq : s.line.queue = front ++ x :: back)
    (hfront : ∀ y ∈ front, y.waitingHeartbeat = false) (hx : x.waitingHeartbeat = true) :
    beat s = { s with line := { s.line with
      heartbeat := some 1000, queue := front ++ { x with data := heartbeatData s } :: back } } := by
  have hany : s.line.queue.any TxTelegram.waitingHeartbeat = true := by simp [hq, hx]
  simp only [beat, hany, if_true]
  rw [hq, replaceHeartbeat_first _ hfront hx]

theorem beat_of_none_waiting (h : ∀ y ∈ s.line.queue, y.waitingHeartbeat = false) :
    beat s = transmit .heartbeat (heartbeatData s) { s with line := { s.line with heartbeat := some 1000 } } := by
  have hany : s.line.queue.any TxTelegram.waitingHeartbeat = false :=
    List.any_eq_false.2 fun y hy => by simp [h y hy]
  simp only [beat, hany, Bool.false_eq_true, if_false]

/-- A number below the place of another joins it as a sum. -/
theorem shiftLeft_or_natWord {c k : Nat} (v : Nat) (h : c < 2 ^ k) :
    natWord v <<< k ||| natWord c = natWord (v * 2 ^ k + c) := by
  apply BitVec.eq_of_getLsbD_eq
  intro i hi
  simp only [natWord, BitVec.getLsbD_or, BitVec.getLsbD_shiftLeft, BitVec.getLsbD_ofNat, hi, decide_true, Bool.true_and]
  rw [Nat.mul_comm, Nat.testBit_two_pow_mul_add v h]
  by_cases hik : i < k
  · simp [hik]
  · have hc : c.testBit i = false :=
      Nat.testBit_lt_two_pow (h.trans_le (Nat.pow_le_pow_right (by decide) (not_lt.1 hik)))
    have hi' : i - k < 16 := by omega
    simp [hik, hc, hi']

theorem channelState_code_lt (c : ChannelState) : c.code < 2 ^ 2 := by cases c <;> decide

/-- The code of a channel state as R217 lists them. -/
theorem channelState_code_eq (c : ChannelState) :
    (if c = .notLearned then 0 else if c = .primary then 1 else if c = .secondary then 2 else 3) = c.code := by
  cases c <;> rfl

theorem channelStateWord_eq (p : ProducerTable) :
    channelStateWord p = natWord (16384 * (p.channelState .head).code + 4096 * (p.channelState .rod).code
      + 1024 * (p.channelState .boom).code + 256 * (p.channelState .bucket).code
      + 64 * (p.channelState .pitch).code + 16 * (p.channelState .drive).code + 4 * (p.channelState .time).code
      + (p.channelState .truck).code) := by
  have hstep (n : Nat) (c : ChannelState) : natWord n <<< 2 ||| natWord c.code = natWord (n * 2 ^ 2 + c.code) :=
    shiftLeft_or_natWord n (channelState_code_lt c)
  have hzero : (0#16 : Word) = natWord 0 := rfl
  simp only [channelStateWord, ProducerTable.channelStates, allChannels, List.map_cons, List.map_nil, List.foldl_cons,
    List.foldl_nil, hzero, hstep]
  congr 1
  omega

/-- Word 0 of a HEARTBEAT: the fields lie apart (R219). -/
theorem heartbeat_word0 (m : Mode) (hm : m = .run ∨ m = .service ∨ m = .closing) (b1 b2 b3 : Bool) (j : JournalState) :
    place m.code 13 ||| flagBit b1 8 ||| flagBit b2 7 ||| flagBit b3 6 ||| place j.code 0 =
      BitVec.ofNat 16 (8192 * (if m = .run then 2 else if m = .service then 3 else 4) + 256 * (if b1 then 1 else 0)
        + 128 * (if b2 then 1 else 0) + 64 * (if b3 then 1 else 0)
        + (if j = .ok then 0 else if j = .degraded then 1 else 2)) := by
  obtain rfl | rfl | rfl := hm <;> revert b1 b2 b3 <;> cases j <;> decide

theorem inputsSum_eq (p : ProducerTable) :
    inputsSum p = min 65535
      ((allChannels.map (fun ch => (p.slot ch .primary).lost + (p.slot ch .secondary).lost)).sum
        + (allChannels.map (fun ch => (p.slot ch .primary).duplicate + (p.slot ch .secondary).duplicate)).sum
        + (allChannels.map (fun ch => (p.slot ch .primary).disagree + (p.slot ch .secondary).disagree)).sum
        + (allChannels.map (fun ch => (p.chan ch).extra)).sum + p.skipped + p.rejected) := by
  have hslots (l : List Channel) :
      ((l.flatMap (fun ch => [p.slot ch .primary, p.slot ch .secondary])).map
        (fun x => x.lost + x.duplicate + x.disagree)).sum =
      (l.map (fun ch => (p.slot ch .primary).lost + (p.slot ch .secondary).lost)).sum
        + (l.map (fun ch => (p.slot ch .primary).duplicate + (p.slot ch .secondary).duplicate)).sum
        + (l.map (fun ch => (p.slot ch .primary).disagree + (p.slot ch .secondary).disagree)).sum := by
    induction l with
    | nil => rfl
    | cons ch rest ih => simp [ih]; omega
  simp only [inputsSum, satSum, ProducerTable.slots, List.sum_append, hslots, List.sum_cons, List.sum_nil, limit16]
  omega

theorem lineSum_eq (l : LineInterface) : lineSum l =
    min 65535 (l.receiveErrors.toList.sum + l.unknownKinds + l.overrun + l.dropped + l.attempts) := by
  simp only [lineSum, satSum, receiveAndDropCounters, List.sum_append, List.sum_cons, List.sum_nil, limit16]
  omega

/-- Settles O15: the beat replaces the HEARTBEAT that waits or is handed over, and its seven words carry R217. -/
theorem heartbeatsAreComposed : Obligations.HeartbeatsAreComposed := by
  intro s hpow hbeat
  have hnot {y : TxTelegram} (h : ¬(y.kind = .heartbeat ∧ y.sending = false)) : y.waitingHeartbeat = false :=
    Bool.eq_false_iff.2 fun hw => h ((waitingHeartbeat_iff y).1 hw)
  rw [exec_heartbeat hpow hbeat]
  refine ⟨fun front x back hq hkind hsend hfront => ?_, fun hnone => ⟨?_, fun hmuted hroom => ?_⟩, fun hmode => ?_⟩
  · exact congrArg _ (beat_of_waiting hq (fun y hy => hnot (hfront y hy)) ((waitingHeartbeat_iff x).2 ⟨hkind, hsend⟩))
  · rw [beat_of_none_waiting fun y hy => hnot (hnone y hy)]
  · have hmuted' : muted { s with line := { s.line with heartbeat := some 1000 } } = false := hmuted
    rw [beat_of_none_waiting fun y hy => hnot (hnone y hy), transmit, hmuted', LineInterface.offer, if_pos hroom]
    rfl
  · simp only [channelState_code_eq]
    rw [heartbeatData, heartbeat_word0 _ hmode, channelStateWord_eq, inputsSum_eq, lineSum_eq]
    simp only [operationSum, journalSum, satSum, List.sum_cons, List.sum_nil, limit16, natWord, Nat.add_zero,
      Nat.add_assoc]

end Sys2Proof.Machine
end

section
/-! PROOFS. Telegrams and record bodies are read back whole (R187, R203, R204, R206, R219). -/

namespace Sys2Proof.Machine

/-! ## Fields of words -/

theorem toNat_natWord {n : Nat} (h : n < 65536) : (natWord n).toNat = n := by
  simp [natWord, Nat.mod_eq_of_lt h]

theorem place_eq (v k : Nat) : place v k = natWord v <<< k := rfl

theorem place_eq_natWord (v k : Nat) : place v k = natWord (v * 2 ^ k) := by
  have := shiftLeft_or_natWord (c := 0) (k := k) v (by positivity)
  simpa [natWord, place] using this

theorem field_natWord {n : Nat} (lo len : Nat) (h : n < 65536) : field (natWord n) lo len = n / 2 ^ lo % 2 ^ len := by
  simp [field, BitVec.extractLsb'_toNat, toNat_natWord h, Nat.shiftRight_eq_div_pow]

/-- Two fields that lie apart. -/
theorem place_or_place {v c j k : Nat} (h : c * 2 ^ j < 2 ^ k) : place v k ||| place c j = natWord (v * 2 ^ k + c * 2 ^ j) := by
  rw [place_eq_natWord c, place_eq, shiftLeft_or_natWord v h]

/-! ## The wire (R203) -/

/-- The character that carries a byte: start bit, byte, stop bit. -/
def charOf (b : Byte) : WireChar := 0#1 ++ b ++ 1#1

theorem charOf_getLsbD (b : Byte) (i : Nat) :
    (charOf b).getLsbD i = if i < 1 then (1#1).getLsbD i else if i - 1 < 8 then b.getLsbD (i - 1) else false := by
  have houter : (charOf b).getLsbD i = if i < 1 then (1#1).getLsbD i else (0#1 ++ b).getLsbD (i - 1) :=
    BitVec.getLsbD_append
  rw [houter, BitVec.getLsbD_append]
  simp

theorem charOf_framed (b : Byte) : charFramed (charOf b) = true := by
  simp only [charFramed, charOf_getLsbD]
  rfl

theorem charByte_charOf (b : Byte) : charByte (charOf b) = b := by
  apply BitVec.eq_of_getLsbD_eq
  intro i hi
  rw [charByte, BitVec.getLsbD_extractLsb', charOf_getLsbD, if_neg (by omega), if_pos (by omega)]
  simp [hi]

theorem bytes_append (w : Word) : w.extractLsb' 8 8 ++ w.extractLsb' 0 8 = w := by
  apply BitVec.eq_of_getLsbD_eq
  intro i hi
  have happend : (w.extractLsb' 8 8 ++ w.extractLsb' 0 8 : BitVec 16).getLsbD i =
      if i < 8 then (w.extractLsb' 0 8).getLsbD i else (w.extractLsb' 8 8).getLsbD (i - 8) := BitVec.getLsbD_append
  rw [happend]
  split
  · next h => simp [h]
  · next h =>
    have h8 : i - 8 < 8 := by omega
    have hadd : 8 + (i - 8) = i := by omega
    simp [h8, hadd]

/-- The words of a telegram are read off its characters (R203). -/
theorem wordsRead_wireOf (ws : List Word) : wordsRead (wireOf ws) = ws := by
  induction ws with
  | nil => rfl
  | cons w rest ih =>
    have hwire : wireOf (w :: rest) = charOf (w.extractLsb' 8 8) :: charOf (w.extractLsb' 0 8) :: wireOf rest := rfl
    rw [wordsRead, hwire, List.takeWhile_cons_of_pos (charOf_framed _), List.takeWhile_cons_of_pos (charOf_framed _),
      List.map_cons, List.map_cons, charByte_charOf, charByte_charOf, wordsOfBytes, bytes_append]
    exact congrArg _ ih

/-! ## Telegrams (R204, R206, R219) -/

theorem Kind.ofCode_code (k : Kind) : Kind.ofCode k.code = some k := by cases k <;> rfl

theorem Kind.code_lt (k : Kind) : k.code < 32 := by cases k <;> decide

theorem TxKind.cls_lt (k : TxKind) : k.cls < 4 := by cases k <;> decide

theorem allowsLength_le {k : Kind} {n : Nat} (h : k.allowsLength n = true) : n ≤ 16 := by
  cases k <;> simp [Kind.allowsLength] at h <;> omega

/-- Header word 0 (R204, R219). -/
theorem header0_eq {station code cls : Nat} (hcode : code < 64) (hcls : cls < 4) :
    place station 11 ||| place code 5 ||| place cls 3 = natWord (station * 2048 + code * 32 + cls * 8) := by
  rw [BitVec.or_assoc, place_or_place (v := code) (by omega), place_eq, shiftLeft_or_natWord station (by omega)]
  exact congrArg natWord (by omega)

/-- Header word 1 (R205, R219). -/
theorem header1_eq {seq n : Nat} (hn : n < 32) : place seq 12 ||| place n 0 = natWord (seq * 4096 + n) := by
  rw [place_or_place (by omega)]
  exact congrArg natWord (by omega)

/-- Settles O12: the two header words hold their fields apart, the words survive the wire, and the CRC is that of the
words before it. -/
theorem telegramsReadBack : Obligations.TelegramsReadBack := by
  intro t station hlow hhigh hseq hlength
  have hn := allowsLength_le hlength
  have hcode := t.kind.kind.code_lt
  have hcls := t.kind.cls_lt
  obtain ⟨kind, seq, data, attempts, sending⟩ := t
  dsimp only at hn hseq hlength hcode hcls
  set w0 := natWord (station * 2048 + kind.kind.code * 32 + kind.cls * 8) with hw0
  set w1 := natWord (seq * 4096 + data.length) with hw1
  have hwords : TxTelegram.words { kind, seq, data, attempts, sending } station =
      w0 :: w1 :: (data ++ [crc (w0 :: w1 :: data)]) := by
    rw [TxTelegram.words, header0_eq (code := kind.kind.code) (hcode.trans (by decide)) hcls,
      header1_eq (n := data.length) (by omega)]
    rfl
  have hsender : headerSender w0 = station := by rw [headerSender, hw0, field_natWord _ _ (by omega)]; omega
  have hkind : headerKindCode w0 = kind.kind.code := by rw [headerKindCode, hw0, field_natWord _ _ (by omega)]; omega
  have hseq' : headerSeq w1 = seq := by rw [headerSeq, hw1, field_natWord _ _ (by omega)]; omega
  have hlen : headerLength w1 = data.length := by rw [headerLength, hw1, field_natWord _ _ (by omega)]; omega
  have hcrc : wordAt (w0 :: w1 :: (data ++ [crc (w0 :: w1 :: data)])) (data.length + 2) = crc (w0 :: w1 :: data) := by
    simp [wordAt, List.getD]
  have htake : (w0 :: w1 :: (data ++ [crc (w0 :: w1 :: data)])).take (data.length + 2) = w0 :: w1 :: data := by
    simp
  have h0 : wordAt (w0 :: w1 :: (data ++ [crc (w0 :: w1 :: data)])) 0 = w0 := rfl
  have h1 : wordAt (w0 :: w1 :: (data ++ [crc (w0 :: w1 :: data)])) 1 = w1 := rfl
  have hpasses : passesChecks kind.kind (w0 :: w1 :: (data ++ [crc (w0 :: w1 :: data)])) = true := by
    simp only [passesChecks, h0, h1, hlen, hsender, hcrc, htake]
    simp [hlength, hn]
    omega
  rw [checkTelegram, wordsRead_wireOf, hwords]
  simp only [h0, h1, hkind, Kind.ofCode_code, hpasses, hsender, hseq', hlen]
  simp

/-! ## Record bodies (R187, R219) -/

theorem longWords_append (v : BitVec 32) : v.extractLsb' 16 16 ++ v.extractLsb' 0 16 = v := by
  apply BitVec.eq_of_getLsbD_eq
  intro i hi
  have happend : (v.extractLsb' 16 16 ++ v.extractLsb' 0 16 : BitVec 32).getLsbD i =
      if i < 16 then (v.extractLsb' 0 16).getLsbD i else (v.extractLsb' 16 16).getLsbD (i - 16) := BitVec.getLsbD_append
  rw [happend]
  split
  · next h => simp [h]
  · next h =>
    have h16 : i - 16 < 16 := by omega
    have hadd : 16 + (i - 16) = i := by omega
    simp [h16, hadd]

theorem wordAt_append (pre b : List Word) (n : Nat) : wordAt (pre ++ b) (pre.length + n) = wordAt b n := by
  simp [wordAt, List.getD, List.getElem?_append_right (Nat.le_add_right _ _)]

/-- A 32-bit quantity is read from behind the words before it. -/
theorem long_append (pre b : List Word) (n : Nat) : long (pre ++ b) (pre.length + n) = long b n := by
  rw [long, long, wordAt_append, Nat.add_assoc, wordAt_append]

theorem long_longWords (v : BitVec 32) (b : List Word) : long (longWords v ++ b) 0 = v := longWords_append v

theorem toNat_long_natWords {n : Nat} (h : n < 4294967296) (b : List Word) : (long (natWords n ++ b) 0).toNat = n := by
  rw [natWords, long_longWords, BitVec.toNat_ofNat, Nat.mod_eq_of_lt h]

/-- The forces of a curve are read in their order. -/
theorem long_flatMap_intWords (l : List Int) (post : List Word) (k : Nat) (hk : k < l.length) :
    long (l.flatMap intWords ++ post) (2 * k) = BitVec.ofInt 32 l[k] := by
  induction l generalizing k with
  | nil => cases hk
  | cons x rest ih =>
    cases k with
    | zero => exact longWords_append _
    | succ k =>
      rw [List.flatMap_cons, List.append_assoc, show 2 * (k + 1) = (intWords x).length + 2 * k from
        (Nat.mul_succ 2 k).trans (Nat.add_comm _ _), long_append]
      exact ih k (Nat.lt_of_succ_lt_succ hk)

theorem toInt_intWord {i : Int} (hlow : -32768 ≤ i) (hhigh : i < 32768) : (intWord i).toInt = i :=
  BitVec.toInt_ofInt_eq_self (by decide) hlow hhigh

theorem toNat_natWord_of_int {i : Int} (hlow : 0 ≤ i) (hhigh : i < 65536) : ((natWord i.toNat).toNat : Int) = i := by
  rw [toNat_natWord (by omega)]
  omega

theorem readCurve_curveWords {v : Vector Int 16} (hfits : v.toList.all fits32 = true) (pre post : List Word) :
    readCurve (pre ++ (curveWords v ++ post)) pre.length = v := by
  have hpoint (k : Nat) (hk : k < 16) : (long (pre ++ (curveWords v ++ post)) (pre.length + 2 * k)).toInt = v[k] := by
    have hmem : v[k] ∈ v.toList := by simp
    have hfit := List.all_eq_true.1 hfits _ hmem
    simp only [fits32, Bool.and_eq_true, decide_eq_true_eq] at hfit
    rw [long_append, curveWords, long_flatMap_intWords _ _ _ (by simpa using hk)]
    simp only [Vector.getElem_toList]
    exact BitVec.toInt_ofInt_eq_self (by decide) hfit.1 (by omega)
  apply Vector.ext
  intro k hk
  rw [← hpoint k hk]
  match k, hk with
  | 0, _ | 1, _ | 2, _ | 3, _ | 4, _ | 5, _ | 6, _ | 7, _ | 8, _ | 9, _ | 10, _ | 11, _ | 12, _ | 13, _ | 14, _
  | 15, _ => rfl
  | _ + 16, h => exact absurd h (by omega)

theorem shiftFigures_ofBody_body (f : ShiftFigures) (stamp : Nat) (h : f.inWidth = true) :
    ShiftFigures.ofBody (f.body stamp) = f := by
  obtain ⟨shift, openTime, openTimeSet, cycles, passes, trucks, payload, unweighed, empties, aborted, carriedBack,
    redigs, cycleTimeSum⟩ := f
  simp only [ShiftFigures.inWidth, List.all_cons, List.all_nil, Bool.and_true, Bool.and_eq_true, decide_eq_true_eq,
    limit16, limit32, ← Nat.lt_succ_iff] at h
  obtain ⟨⟨hshift, hcycles, hpasses, htrucks, hunweighed, hempties, haborted, hcarried, hredigs⟩,
    hopen, hpayload, hsum⟩ := h
  have hflag : (flagBit openTimeSet 0).getLsbD 0 = openTimeSet := by cases openTimeSet <;> rfl
  simp only [ShiftFigures.ofBody, ShiftFigures.mk.injEq]
  exact ⟨toNat_natWord hshift, toNat_long_natWords hopen [], hflag, toNat_natWord hcycles, toNat_natWord hpasses,
    toNat_natWord htrucks, toNat_long_natWords hpayload [], toNat_natWord hunweighed, toNat_natWord hempties,
    toNat_natWord haborted, toNat_natWord hcarried, toNat_natWord hredigs, toNat_long_natWords hsum []⟩

theorem within_iff (lo hi x : Int) : within lo hi x = true ↔ lo ≤ x ∧ x ≤ hi := by simp [within]

theorem curveWords_length (v : Vector Int 16) : (curveWords v).length = 32 := by
  simp [curveWords, List.length_flatMap, intWords, longWords]

/-- The curves of a record are read from behind its other fields (R219). -/
theorem curves_read {c : Curves} {front : List Word} (hfront : front.length = 20) (hrange : 0 ≤ c.refLoad ∧ c.refLoad < 65536)
    (hempty : c.empty.toList.all fits32 = true) (hloaded : c.loaded.toList.all fits32 = true) :
    ({ empty := readCurve (front ++ (curveWords c.empty ++ (curveWords c.loaded ++ [natWord c.refLoad.toNat]))) 20,
       loaded := readCurve (front ++ (curveWords c.empty ++ (curveWords c.loaded ++ [natWord c.refLoad.toNat]))) 52,
       refLoad := ((wordAt (front ++ (curveWords c.empty ++ (curveWords c.loaded ++ [natWord c.refLoad.toNat])))
        84).toNat : Int) } : Curves) = c := by
  have hmid : (front ++ curveWords c.empty).length = 52 := by simp [hfront, curveWords_length]
  have hback : (front ++ curveWords c.empty ++ curveWords c.loaded).length = 84 := by
    simp [hfront, curveWords_length]
  have h1 := readCurve_curveWords hempty front (curveWords c.loaded ++ [natWord c.refLoad.toNat])
  have h2 := readCurve_curveWords hloaded (front ++ curveWords c.empty) [natWord c.refLoad.toNat]
  have h3 := wordAt_append (front ++ curveWords c.empty ++ curveWords c.loaded) [natWord c.refLoad.toNat] 0
  rw [hfront] at h1
  rw [hmid, List.append_assoc] at h2
  rw [Nat.add_zero, hback, List.append_assoc, List.append_assoc] at h3
  rw [h1, h2, h3]
  have href : ((wordAt [natWord c.refLoad.toNat] 0).toNat : Int) = c.refLoad := toNat_natWord_of_int hrange.1 hrange.2
  rw [href]

/-- The body of a record before its curves. -/
def MachineRecord.frontWords (r : MachineRecord) : List Word :=
  [natWord r.headArea.toNat, natWord r.rodArea.toNat, intWord r.thetaLo, intWord r.thetaHi,
   intWord r.betaMin, intWord r.betaDump, natWord r.volume.toNat, natWord r.rho1.toNat,
   natWord r.rho2.toNat, natWord r.rho3.toNat, natWord r.rho4.toNat]
    ++ natWords r.defaultTarget.toNat
    ++ [natWord r.overTolerance.toNat, natWord r.emptyThreshold.toNat, natWord r.spreadLimit.toNat,
        intWord r.point1, intWord r.point2, intWord r.point3]

theorem body_of_curves {r : MachineRecord} {c : Curves} (h : r.curves = some c) :
    r.body = (r.frontWords ++ [1#16]) ++
      (curveWords c.empty ++ (curveWords c.loaded ++ [natWord c.refLoad.toNat])) := by
  simp [MachineRecord.body, MachineRecord.frontWords, h]

theorem body_of_none {r : MachineRecord} (h : r.curves = none) :
    r.body = r.frontWords ++ List.replicate 66 0#16 := by
  simp [MachineRecord.body, MachineRecord.frontWords, h]

/-- The curves of a body are those of its record. -/
theorem ofBody_curves {r : MachineRecord}
    (hpass : r.curves.all Curves.passes = true)
    (hforces : r.curves.all (fun c => c.empty.toList.all fits32 && c.loaded.toList.all fits32) = true) :
    (MachineRecord.ofBody r.body).curves = r.curves := by
  cases hc : r.curves with
  | none => rw [body_of_none hc]; rfl
  | some c =>
    rw [hc] at hpass hforces
    simp only [Option.all_some, Curves.passes, Bool.and_eq_true, within_iff] at hpass hforces
    obtain ⟨⟨hlow, hhigh⟩, -⟩ := hpass
    rw [body_of_curves hc]
    exact congrArg some (curves_read rfl ⟨by omega, by omega⟩ hforces.1 hforces.2)

theorem machineRecord_ofBody_body (r : MachineRecord) (h : r.storable = true) : MachineRecord.ofBody r.body = r := by
  simp only [MachineRecord.storable, Bool.and_eq_true] at h
  obtain ⟨hpasses, hforces⟩ := h
  have hp := hpasses
  simp only [MachineRecord.passes, Bool.and_eq_true, within_iff] at hp
  obtain ⟨⟨⟨⟨⟨⟨⟨⟨⟨⟨⟨⟨⟨⟨⟨⟨⟨⟨⟨hhead, hrod⟩, hlo⟩, hhi⟩, -⟩, hmin⟩, hdump⟩, hvol⟩, h1⟩, h2⟩, h3⟩, h4⟩, htarget⟩, hover⟩,
    hempty⟩, hspread⟩, hp1⟩, hp2⟩, hp3⟩, hcurves⟩ := hp
  have hread := ofBody_curves hcurves hforces
  have hfields (tail : List Word) (hbody : r.body = r.frontWords ++ tail) :
      MachineRecord.ofBody r.body = { r with curves := (MachineRecord.ofBody r.body).curves } := by
    have htarget' : ((long (natWords r.defaultTarget.toNat ++ []) 0).toNat : Int) = r.defaultTarget := by
      rw [toNat_long_natWords (by omega)]
      omega
    rw [hbody]
    simp only [MachineRecord.ofBody, MachineRecord.mk.injEq, and_true]
    exact ⟨toNat_natWord_of_int (by omega) (by omega), toNat_natWord_of_int (by omega) (by omega),
      toInt_intWord (by omega) (by omega), toInt_intWord (by omega) (by omega), toInt_intWord (by omega) (by omega),
      toInt_intWord (by omega) (by omega), toNat_natWord_of_int (by omega) (by omega),
      toNat_natWord_of_int (by omega) (by omega), toNat_natWord_of_int (by omega) (by omega),
      toNat_natWord_of_int (by omega) (by omega), toNat_natWord_of_int (by omega) (by omega), htarget',
      toNat_natWord_of_int (by omega) (by omega), toNat_natWord_of_int (by omega) (by omega),
      toNat_natWord_of_int (by omega) (by omega), toInt_intWord (by omega) (by omega),
      toInt_intWord (by omega) (by omega), toInt_intWord (by omega) (by omega)⟩
  have hbody : ∃ tail, r.body = r.frontWords ++ tail := by
    cases hc : r.curves with
    | none => exact ⟨_, body_of_none hc⟩
    | some c => exact ⟨_, (body_of_curves hc).trans (List.append_assoc _ _ _)⟩
  obtain ⟨tail, hbody⟩ := hbody
  rw [hfields tail hbody, hread]

/-- Settles O32: each field is read from the words it was written to, within the widths its range fits. -/
theorem recordsReadBack : Obligations.RecordsReadBack :=
  ⟨machineRecord_ofBody_body, shiftFigures_ofBody_body⟩

end Sys2Proof.Machine
end

section
/-! PROOFS. The lift force and the SETTINGS WRITE (R7, R34, R40). -/

namespace Sys2Proof.Machine.Weigher

/-- A pressure acting on an area, within their ranges (R7). -/
theorem pressure_mul_area_bounds {p a : Int} (hp0 : 0 ≤ p) (hp : p ≤ 40000) (ha0 : 0 ≤ a) (ha : a ≤ 65000) :
    0 ≤ p * a ∧ p * a ≤ 2600000000 :=
  ⟨mul_nonneg hp0 ha0, (mul_le_mul hp ha ha0 (by decide)).trans (by decide)⟩

/-- Settles O22: the lift force is a rounded quotient by 1,000, between those of the two forces. -/
theorem liftForce : Obligations.LiftForce := by
  intro ah ar ph pr
  refine ⟨fun hn => ?_, fun hn => ?_, fun hph0 hph hpr0 hpr hah0 hah har0 har => ?_⟩
  · have := roundDiv_near_of_nonneg (d := 1000) (by decide) hn
    simp only [Machine.liftForce]
    omega
  · have := roundDiv_near_of_neg (d := 1000) (by decide) hn
    simp only [Machine.liftForce]
    omega
  · have hhead := pressure_mul_area_bounds hph0 hph hah0 hah
    have hrod := pressure_mul_area_bounds hpr0 hpr har0 har
    exact roundDiv_within (by decide) (by omega) (by omega)

end Sys2Proof.Machine.Weigher

namespace Sys2Proof.Machine

/-- The ranges of a record's plain fields (R34). -/
def MachineRecord.InRange (r : MachineRecord) : Prop :=
  (1000 ≤ r.headArea ∧ r.headArea ≤ 65000) ∧ (0 ≤ r.rodArea ∧ r.rodArea ≤ r.headArea) ∧
  (-3000 ≤ r.thetaLo ∧ r.thetaLo ≤ 3000) ∧ (r.thetaLo + 1500 ≤ r.thetaHi ∧ r.thetaHi ≤ 6000) ∧
  (r.thetaHi - r.thetaLo) % 15 = 0 ∧ (0 ≤ r.betaMin ∧ r.betaMin ≤ 9000) ∧ (-9000 ≤ r.betaDump ∧ r.betaDump ≤ 0) ∧
  (1000 ≤ r.volume ∧ r.volume ≤ 20000) ∧ (500 ≤ r.rho1 ∧ r.rho1 ≤ 3000) ∧ (500 ≤ r.rho2 ∧ r.rho2 ≤ 3000) ∧
  (500 ≤ r.rho3 ∧ r.rho3 ≤ 3000) ∧ (500 ≤ r.rho4 ∧ r.rho4 ≤ 3000) ∧
  (1000 ≤ r.defaultTarget ∧ r.defaultTarget ≤ 200000) ∧ (0 ≤ r.overTolerance ∧ r.overTolerance ≤ 100) ∧
  (0 ≤ r.emptyThreshold ∧ r.emptyThreshold ≤ 2000) ∧ (100 ≤ r.spreadLimit ∧ r.spreadLimit ≤ 5000) ∧
  (-1 ≤ r.point1 ∧ r.point1 ≤ 1439) ∧ (-1 ≤ r.point2 ∧ r.point2 ≤ 1439) ∧ (-1 ≤ r.point3 ∧ r.point3 ≤ 1439)

theorem MachineRecord.passes_iff (r : MachineRecord) :
    r.passes = true ↔ r.InRange ∧ r.curves.all Curves.passes = true := by
  simp only [MachineRecord.passes, MachineRecord.InRange, Bool.and_eq_true, within_iff, decide_eq_true_eq, and_assoc]

theorem clamp_eq {lo hi : Int} (h : lo ≤ hi) (v : Int) : clamp lo hi v = max lo (min hi v) := by
  unfold clamp
  split_ifs <;> omega

/-- A WRITE touches no curve (R40). -/
theorem MachineRecord.write_curves (r : MachineRecord) (index : Nat) (v : Int) : (r.write index v).curves = r.curves := by
  unfold MachineRecord.write
  split <;> rfl

/-- A WRITE keeps every field in its range (R34, R40). -/
theorem MachineRecord.write_inRange {r : MachineRecord} (index : Nat) (v : Int) (h : r.InRange) :
    (r.write index v).InRange := by
  unfold MachineRecord.write MachineRecord.setHeadArea MachineRecord.setThetaLo MachineRecord.setThetaHi
  simp only [MachineRecord.InRange, clamp, multipleOf15] at h ⊢
  split
  case h_19 => exact h
  all_goals
    dsimp only
    split_ifs <;> omega

theorem dependentChanged_iff (r w : MachineRecord) (index : Nat) : dependentChanged r w index = true ↔
    (index = 1 ∧ w.rodArea ≠ r.rodArea) ∨ (index = 3 ∧ w.thetaHi ≠ r.thetaHi) := by
  unfold dependentChanged
  split
  · simp
  · simp
  · next h1 h3 => simpa using ⟨fun h => absurd h h1, fun h => absurd h h3⟩

/-- Settles O33: each index clamps into its range, and the dependent fields follow it within theirs. -/
theorem writesStayInRange : Obligations.WritesStayInRange := by
  intro r index v hpasses
  have hanswer : writeAnswer r (r.write index v) index v =
      if (r.write index v).at index ≠ v ∨ (index = 1 ∧ (r.write index v).rodArea ≠ r.rodArea) ∨
        (index = 3 ∧ (r.write index v).thetaHi ≠ r.thetaHi) then .clamped else .accepted :=
    if_congr (or_congr Iff.rfl (dependentChanged_iff _ _ _)) rfl rfl
  obtain ⟨hrange, hcurves⟩ := r.passes_iff.1 hpasses
  refine ⟨(MachineRecord.passes_iff _).2 ⟨MachineRecord.write_inRange index v hrange, by rwa [MachineRecord.write_curves]⟩,
    ?_, ?_, ?_, ?_, ?_, ?_, ?_, ?_, ?_, ?_, ?_, ?_, ?_, ?_, ?_, ?_, ?_, ?_,
    fun h => hanswer.trans (if_pos h), fun h => hanswer.trans (if_neg h), rfl⟩
  case refine_1 =>
    rintro rfl
    have hrod : (if clamp 1000 65000 v < r.rodArea then clamp 1000 65000 v else r.rodArea) =
        min r.rodArea (clamp 1000 65000 v) := by split <;> omega
    simp only [MachineRecord.write, MachineRecord.setHeadArea, hrod]
    rw [clamp_eq (by decide)]
  case refine_3 =>
    rintro rfl
    simp only [MachineRecord.write, MachineRecord.setThetaLo, multipleOf15]
    rw [clamp_eq (by decide)]
  case refine_2 | refine_4 =>
    rintro rfl
    simp only [MachineRecord.InRange] at hrange
    simp only [MachineRecord.write, MachineRecord.setThetaHi, multipleOf15]
    rw [clamp_eq (by omega)]
  all_goals
    rintro rfl
    simp only [MachineRecord.write]
    rw [clamp_eq (by decide)]

end Sys2Proof.Machine
end

section
/-! PROOFS. The Producer Table: its slots, the ages, and what a dispatched telegram does to it (R57 to R66). -/

namespace Sys2Proof.Machine

variable {s : State}

/-! ## Slots read and replaced -/

theorem chanIdx_injective {c ch : Channel} (h : chanIdx c = chanIdx ch) : c = ch := by
  cases c <;> cases ch <;> simp_all [chanIdx]

theorem chan_setChan (p : ProducerTable) (ch c : Channel) (x : ChannelSlots) :
    (p.setChan ch x).chan c = if c = ch then x else p.chan c := by
  unfold ProducerTable.setChan ProducerTable.chan
  split
  · next h => subst h; simp
  · next h =>
    have hne : (chanIdx ch).val ≠ (chanIdx c).val := fun he => h (chanIdx_injective (Fin.ext he)).symm
    simp [Vector.getElem_set_ne, hne]

theorem get_put (c : ChannelSlots) (id i : SlotId) (x : Slot) :
    (c.put id x).get i = if i = id then x else c.get i := by
  cases id <;> cases i <;> rfl

theorem slot_setSlot (p : ProducerTable) (ch c : Channel) (id i : SlotId) (x : Slot) :
    (p.setSlot ch id x).slot c i = if c = ch ∧ i = id then x else p.slot c i := by
  unfold ProducerTable.slot ProducerTable.setSlot
  rw [chan_setChan]
  by_cases hc : c = ch
  · subst hc
    simp [get_put]
  · simp [hc]

theorem extra_setSlot (p : ProducerTable) (ch c : Channel) (id : SlotId) (x : Slot) :
    ((p.setSlot ch id x).chan c).extra = (p.chan c).extra := by
  unfold ProducerTable.setSlot
  rw [chan_setChan]
  split
  · next h => subst h; cases id <;> rfl
  · rfl

theorem setProducers_prod' (p : ProducerTable) (s : State) : (setProducers p s).prod = p := by
  rw [setProducers_eq]

theorem setSlot_slot (p : ProducerTable) (ch : Channel) (id : SlotId) : p.setSlot ch id (p.slot ch id) = p := by
  have hput : (p.chan ch).put id ((p.chan ch).get id) = p.chan ch := by cases id <;> rfl
  unfold ProducerTable.setSlot ProducerTable.slot ProducerTable.setChan
  rw [hput]
  simp [ProducerTable.chan]

/-! ## The limits of the ages (R60, R65) -/

theorem exec_linkSilence (hpow : s.pins.resetLow = false) (ch : Channel) (id : SlotId) :
    exec (.linkSilence ch id) s = .next (silenceSlot ch id s) :=
  whilePowered_of_high hpow (silenceSlot ch id)

theorem exec_valueStale (hpow : s.pins.resetLow = false) (ch : Channel) (id : SlotId) :
    exec (.valueStale ch id) s = .next (staleSlot ch id s) :=
  whilePowered_of_high hpow (staleSlot ch id)

/-- A slot replaced touches the table at that slot, and the stale mark. -/
theorem setSlot_touches (ch : Channel) (id : SlotId) (x : Slot) (s : State) :
    let t := setProducers (s.prod.setSlot ch id x) s
    t = { s with prod := t.prod, display := { s.display with stale := t.display.stale } } ∧
      t.prod.slot ch id = x ∧ ∀ ch' id', (ch', id') ≠ (ch, id) → t.prod.slot ch' id' = s.prod.slot ch' id' := by
  refine ⟨?_, ?_, fun ch' id' hne => ?_⟩
  · rw [setProducers_prod']
    exact setProducers_eq _ _
  · rw [setProducers_prod', slot_setSlot, if_pos ⟨rfl, rfl⟩]
  · rw [setProducers_prod', slot_setSlot, if_neg fun h => hne (Prod.ext h.1 h.2)]

theorem isFresh_at_limit (x : Slot) (ch : Channel) :
    ({ x with valueAge := some (freshTime ch) } : Slot).isFresh ch = false := by
  unfold Slot.isFresh
  cases x.lastValue <;> simp

/-- Settles O21: a slot whose age has reached its limit is replaced, and no other is touched. -/
theorem agesReachTheirLimits : Obligations.AgesReachTheirLimits := by
  intro ch id s hpow hruns
  refine ⟨fun hstate hage => ?_, fun age hage hlt => ?_, fun hfresh => ?_⟩
  · have hdue : silenceDue ch id s = true := by
      obtain h | h := hstate <;> simp [silenceDue, hruns, h, hage, reached]
    obtain ⟨hframe, hslot, hothers⟩ := setSlot_touches ch id (s.prod.slot ch id).fallSilent s
    refine ⟨_, exec_linkSilence hpow ch id, ?_⟩
    rw [silenceSlot, if_pos hdue]
    refine ⟨hframe, hslot.trans ?_, hothers⟩
    rw [Slot.fallSilent, ← hage]
    rfl
  · have hnot : silenceDue ch id s = false := by
      have : ¬1000 ≤ age := not_le.2 hlt
      simp [silenceDue, hage, reached, this]
    rw [exec_linkSilence hpow, silenceSlot, hnot]
    rfl
  · obtain ⟨hframe, hslot, hothers⟩ :=
      setSlot_touches ch id { s.prod.slot ch id with valueAge := some (freshTime ch) } s
    have hexpired := isFresh_at_limit (s.prod.slot ch id) ch
    refine ⟨_, exec_valueStale hpow ch id, ?_⟩
    rw [staleSlot, if_pos (by simp [hruns, hfresh])]
    refine ⟨hframe, hslot, ?_, ?_, hothers⟩
    · rw [hslot, hexpired]
    · rw [hslot, Slot.selectable, hexpired]
      simp

/-! ## Dispatch (R60, R207, R208) -/

/-- A part with the oldest telegram taken out of its inbox (R208). -/
def inboxPopped (rest : List RxTelegram) (s : State) : State := { s with line := { s.line with inbox := rest } }

theorem exec_dispatch (hpow : s.pins.resetLow = false) {r : RxTelegram} {rest : List RxTelegram}
    (hinbox : s.line.inbox = r :: rest) :
    exec .dispatch s = .next (closingCheck (takeTelegram r (inboxPopped rest s))) := by
  rw [show exec .dispatch s = .next (closingCheck (dispatchOldest s)) from
    whilePowered_of_high hpow (fun s => closingCheck (dispatchOldest s)), dispatchOldest, hinbox]
  rfl

/-- A telegram taken while closing is not over leaves it so (R224). -/
theorem exec_dispatch_of_not_over (hpow : s.pins.resetLow = false) (hover : s.closingOver = false) {r : RxTelegram}
    {rest : List RxTelegram} (hinbox : s.line.inbox = r :: rest) :
    exec .dispatch s = .next (takeTelegram r (inboxPopped rest s)) := by
  rw [exec_dispatch hpow hinbox, closingCheck_of_not_over]
  exact (takeTelegram_keeps r _).not_over hover

theorem hear_of_station {x : Slot} {n : Nat} (h : x.station = some n) :
    (x.hear n).linkAge = some 0 ∧ (x.hear n).state ≠ .silent := by
  unfold Slot.hear
  rw [if_pos h]
  refine ⟨rfl, ?_⟩
  dsimp only
  split
  · split <;> simp
  · assumption

/-- Settles O19: the slots of the sender hear the telegram, which then finds no receiver. -/
theorem dispatchRestartsLinkAges : Obligations.DispatchRestartsLinkAges := by
  intro r rest s hpow hover hinbox hchannel hsettings hread
  have howner (u : State) : takeByOwner r u = u := by
    unfold takeByOwner
    split
    · exact absurd ‹_› hsettings
    · exact absurd ‹_› hread
    · rfl
  refine ⟨_, exec_dispatch_of_not_over hpow hover hinbox, ?_⟩
  rw [takeTelegram, hchannel]
  dsimp only
  rw [howner, setProducers_eq]
  refine ⟨rfl, rfl, fun ch id h => ?_, fun ch id h => ?_, rfl, rfl, rfl, rfl, rfl, rfl, rfl, rfl⟩
  · exact (slot_hear s.prod r.sender ch id).symm ▸ hear_of_station h
  · refine (slot_hear s.prod r.sender ch id).trans ?_
    rw [Slot.hear, if_neg h]

/-! ## The sequence check (R62) -/

theorem judgeSeq_of_first {x : Slot} (seq : Nat)
    (h : x.lastSeq = none ∨ (x.lastSeq.isSome = true ∧ x.resync = true)) :
    x.judgeSeq seq = ({ x with lastSeq := some seq, resync := false }, true) := by
  unfold Slot.judgeSeq
  cases hl : x.lastSeq with
  | none => rfl
  | some last =>
    have hresync : x.resync = true := by simpa [hl] using h
    simp [hresync]

theorem judgeSeq_of_duplicate {x : Slot} {seq : Nat} (hl : x.lastSeq = some seq) (hr : x.resync = false) :
    x.judgeSeq seq = ({ x with duplicate := min 65535 (x.duplicate + 1) }, false) := by
  simp [Slot.judgeSeq, hl, hr, inc, satAdd, limit16]

/-- The numbers missed between two, counted round the sixteen (R62). -/
theorem missed_eq {seq last : Nat} (h : last < 16) :
    (seq + 31 - last) % 16 = (((seq : Int) - last - 1) % 16).toNat := by omega

theorem judgeSeq_of_next {x : Slot} {seq last : Nat} (hlast : last < 16) (hl : x.lastSeq = some last)
    (hr : x.resync = false) (hne : seq ≠ last) :
    x.judgeSeq seq = ({ x with
      lastSeq := some seq, lost := min 65535 (x.lost + (((seq : Int) - last - 1) % 16).toNat) }, true) := by
  simp only [Slot.judgeSeq, hl, hr, Bool.false_eq_true, if_false, if_neg hne, satAdd, limit16, missed_eq hlast]

/-! ## What a slot takes (R59, R63, R64) -/

/-- A slot after a telegram of its channel has been judged, and stored where it is accepted (R62 to R64). -/
def Slot.judged (x : Slot) (ch : Channel) (seq : Nat) (d : List Word) : Slot :=
  if (x.judgeSeq seq).2 ∧ isSampleChannel ch then
    (x.judgeSeq seq).1.store ch (carriedValue ch d).1 (carriedValue ch d).2
  else (x.judgeSeq seq).1

/-- The slot given to a telegram judges it (R59, R62). -/
theorem take_of_assign {p q : ProducerTable} {ch : Channel} {sender : Nat} {id : SlotId} (seq : Nat) (d : List Word)
    (h : p.assign ch sender = (q, some id)) :
    p.take ch sender seq d = (q.setSlot ch id ((q.slot ch id).judged ch seq d),
      if ((q.slot ch id).judgeSeq seq).2 then some id else none) := by
  rw [ProducerTable.take, h]
  dsimp only [Slot.judged]
  cases ((q.slot ch id).judgeSeq seq).2 <;> cases isSampleChannel ch <;> rfl

theorem take_of_extra {p q : ProducerTable} {ch : Channel} {sender : Nat} (seq : Nat) (d : List Word)
    (h : p.assign ch sender = (q, none)) : p.take ch sender seq d = (q, none) := by
  rw [ProducerTable.take, h]

/-- The slot `id`, which held `x`, takes a telegram: it judges it, and no other slot is touched. -/
def Slot.Takes (x : Slot) (id : SlotId) (p : ProducerTable) (ch : Channel) (sender seq : Nat) (d : List Word) : Prop :=
  let t := p.take ch sender seq d
  t.2 = (if (x.judgeSeq seq).2 then some id else none) ∧
    (∀ c i, t.1.slot c i = if c = ch ∧ i = id then x.judged ch seq d else p.slot c i) ∧
    (∀ c, (t.1.chan c).extra = (p.chan c).extra) ∧ t.1.skipped = p.skipped ∧ t.1.rejected = p.rejected

theorem takes_of_assign {p : ProducerTable} {ch : Channel} {sender : Nat} {x : Slot} {id : SlotId} (seq : Nat)
    (d : List Word) (h : p.assign ch sender = (p.setSlot ch id x, some id)) : x.Takes id p ch sender seq d := by
  have hx : (p.setSlot ch id x).slot ch id = x := by rw [slot_setSlot, if_pos ⟨rfl, rfl⟩]
  rw [Slot.Takes, take_of_assign seq d h, hx]
  refine ⟨rfl, fun c i => ?_, fun c => ?_, rfl, rfl⟩
  · rw [slot_setSlot, slot_setSlot]
    split <;> rfl
  · rw [extra_setSlot, extra_setSlot]

theorem takes_of_holder {p : ProducerTable} {ch : Channel} {sender : Nat} {id : SlotId} (seq : Nat) (d : List Word)
    (h : p.assign ch sender = (p, some id)) : (p.slot ch id).Takes id p ch sender seq d :=
  takes_of_assign seq d (by rw [setSlot_slot, h])

theorem takes_first {p : ProducerTable} {ch : Channel} {sender : Nat} (seq : Nat) (d : List Word)
    (h : (p.slot ch .primary).station = some sender) : (p.slot ch .primary).Takes .primary p ch sender seq d :=
  takes_of_holder seq d (by unfold ProducerTable.assign; exact if_pos h)

/-- What a slot stores of an accepted telegram, clamped and judged by its channel (R63). -/
theorem storedValue_eq {ch : Channel} (h : isSampleChannel ch = true) (status : Status) (value : Int) :
    storedValue ch status value =
      if ch = .head ∨ ch = .rod then
        (max 0 (min 40000 value), if status = .fault then .fault
          else if status = .over ∨ 40000 < value then .over else .ok)
      else if ch = .boom then (max (-4500) (min 6000 value), status)
      else if ch = .bucket then (max (-9000) (min 9000 value), status)
      else if ch = .pitch then (max (-2000) (min 2000 value), status)
      else (value, if value = 0 ∨ value = 1 ∨ value = 2 then status else .fault) := by
  cases ch with
  | time => cases h
  | truck => cases h
  | head => rw [if_pos (.inl rfl), storedValue, clamp_eq (by decide)]
  | rod => rw [if_pos (.inr rfl), storedValue, clamp_eq (by decide)]
  | boom => rw [if_neg (by decide), if_pos rfl, storedValue, clamp_eq (by decide)]
  | bucket => rw [if_neg (by decide), if_neg (by decide), if_pos rfl, storedValue, clamp_eq (by decide)]
  | pitch =>
    rw [if_neg (by decide), if_neg (by decide), if_neg (by decide), if_pos rfl, storedValue, clamp_eq (by decide)]
  | drive => rfl

theorem isSampleChannel_iff (ch : Channel) : isSampleChannel ch = true ↔ ch ≠ .time ∧ ch ≠ .truck := by
  cases ch <;> simp [isSampleChannel]

theorem filled_eq (ch : Channel) (sender : Nat) : Slot.filled ch sender = {
      station := some sender, state := .active, lastValue := none, lastStatus := none, lastSeq := none,
      resync := false, linkAge := some 0, valueAge := if ch ≠ .time ∧ ch ≠ .truck then some 0 else none, lost := 0,
      duplicate := 0, disagree := 0 } := by
  rw [Slot.filled, Slot.cleared]
  simp only [isSampleChannel_iff]

/-! ## A dispatched telegram of a channel (R59, R62, R208) -/

/-- The Producer Table after a telegram of a channel, and the slot by which it was accepted. -/
abbrev tableTook (ch : Channel) (r : RxTelegram) (s : State) : ProducerTable × Option SlotId :=
  (s.prod.hear r.sender).take ch r.sender r.seq r.data

/-- A part whose Producer Table has taken its oldest telegram. -/
abbrev tableTaken (ch : Channel) (r : RxTelegram) (rest : List RxTelegram) (s : State) : State :=
  setProducers (tableTook ch r s).1 (inboxPopped rest s)

section
variable {r : RxTelegram} {rest : List RxTelegram} {ch : Channel}

theorem takeChannelTelegram_eq (ch : Channel) (r : RxTelegram) (s : State) :
    takeChannelTelegram ch r s = match (tableTook ch r s).2 with
      | some id => useAccepted ch id r (setProducers (tableTook ch r s).1 s)
      | none => setProducers (tableTook ch r s).1 s := rfl

/-- A telegram that no slot accepts goes no further than the table. -/
theorem exec_dispatch_unaccepted (hpow : s.pins.resetLow = false) (hover : s.closingOver = false)
    (hinbox : s.line.inbox = r :: rest) (hch : r.kind.channel = some ch) (h : (tableTook ch r s).2 = none) :
    exec .dispatch s = .next (tableTaken ch r rest s) := by
  rw [exec_dispatch_of_not_over hpow hover hinbox, takeTelegram, hch]
  dsimp only
  rw [takeChannelTelegram_eq, show (tableTook ch r (inboxPopped rest s)).2 = none from h]
  rfl

theorem exec_dispatch_accepted (hpow : s.pins.resetLow = false) (hover : s.closingOver = false)
    (hinbox : s.line.inbox = r :: rest) (hch : r.kind.channel = some ch) {id : SlotId}
    (h : (tableTook ch r s).2 = some id) :
    exec .dispatch s = .next (useAccepted ch id r (tableTaken ch r rest s)) := by
  rw [exec_dispatch_of_not_over hpow hover hinbox, takeTelegram, hch]
  dsimp only
  rw [takeChannelTelegram_eq, show (tableTook ch r (inboxPopped rest s)).2 = some id from h]
  rfl

end

theorem hear_of_active {x : Slot} {sender : Nat} (hstation : x.station = some sender) (hstate : x.state = .active) :
    x.hear sender = { x with linkAge := some 0 } := by
  rw [Slot.hear, if_pos hstation, hstate]
  rfl

/-- The sequence check of R62, in its three clauses. -/
theorem judgeSeq_cases (x : Slot) (seq : Nat) :
    ((x.lastSeq = none ∨ (x.lastSeq.isSome = true ∧ x.resync = true)) →
      x.judgeSeq seq = ({ x with lastSeq := some seq, resync := false }, true)) ∧
    (∀ last, x.lastSeq = some last → x.resync = false → seq = last →
      x.judgeSeq seq = ({ x with duplicate := min 65535 (x.duplicate + 1) }, false)) ∧
    (∀ last, last < 16 → x.lastSeq = some last → x.resync = false → seq ≠ last →
      x.judgeSeq seq = ({ x with
        lastSeq := some seq,
        lost := min 65535 (x.lost + (((seq : Int) - last - 1) % 16).toNat) }, true)) :=
  ⟨judgeSeq_of_first seq, fun _ hl hr heq => judgeSeq_of_duplicate (heq ▸ hl) hr,
    fun _ hlast hl hr hne => judgeSeq_of_next hlast hl hr hne⟩

/-- A telegram that repeats the last sequence of an ACTIVE first slot: the table, and no other block (R62). -/
theorem duplicate_dispatched {r : RxTelegram} {rest : List RxTelegram} {ch : Channel}
    (hpow : s.pins.resetLow = false) (hover : s.closingOver = false) (hinbox : s.line.inbox = r :: rest)
    (hch : r.kind.channel = some ch) (hstation : (s.prod.slot ch .primary).station = some r.sender)
    (hstate : (s.prod.slot ch .primary).state = .active) (hresync : (s.prod.slot ch .primary).resync = false)
    (hseq : (s.prod.slot ch .primary).lastSeq = some r.seq) :
    exec .dispatch s = .next (tableTaken ch r rest s) ∧
      (tableTook ch r s).1.slot ch .primary = { s.prod.slot ch .primary with
        linkAge := some 0, duplicate := min 65535 ((s.prod.slot ch .primary).duplicate + 1) } := by
  have hheard : (s.prod.hear r.sender).slot ch .primary = { s.prod.slot ch .primary with linkAge := some 0 } := by
    rw [slot_hear, hear_of_active hstation hstate]
  have hjudge := judgeSeq_of_duplicate (x := (s.prod.hear r.sender).slot ch .primary) (seq := r.seq)
    (by rw [hheard]; exact hseq) (by rw [hheard]; exact hresync)
  obtain ⟨haccepted, hslots, -⟩ := takes_first r.seq r.data
    (show ((s.prod.hear r.sender).slot ch .primary).station = some r.sender by rw [hheard]; exact hstation)
  rw [hjudge] at haccepted
  refine ⟨exec_dispatch_unaccepted hpow hover hinbox hch haccepted, ?_⟩
  rw [hslots, if_pos ⟨rfl, rfl⟩, Slot.judged, hjudge, hheard]
  rfl

/-- Settles O20: the sequence check, a duplicate that is dispatched, and the slot given to a telegram. -/
theorem slotsTakeTelegrams : Obligations.SlotsTakeTelegrams := by
  refine ⟨fun x seq _ => judgeSeq_cases x seq, fun r rest ch s hpow hover hinbox hch hstation hstate hresync hseq => ?_,
    fun p ch sender seq d => ?_⟩
  · obtain ⟨hexec, hslot⟩ := duplicate_dispatched hpow hover hinbox hch hstation hstate hresync hseq
    refine ⟨_, hexec, ?_⟩
    rw [tableTaken, setProducers_eq]
    exact ⟨hslot, rfl, rfl, rfl, rfl, rfl, rfl, rfl, rfl, rfl⟩
  · intro x1 x2 sample status value kept stored fresh judged t given other
    have hjudged (x : Slot) : judged x = x.judged ch seq d := by
      by_cases hs : isSampleChannel ch = true
      · have hstored : stored = storedValue ch status value := (storedValue_eq hs status value).symm
        by_cases hacc : (x.judgeSeq seq).2 = true
        · rw [Slot.judged, if_pos ⟨hacc, hs⟩]
          refine (if_pos ⟨hacc, (isSampleChannel_iff ch).1 hs⟩).trans ?_
          rw [hstored]
          rfl
        · rw [Slot.judged, if_neg fun h => hacc h.1]
          exact if_neg fun h => hacc h.1
      · rw [Slot.judged, if_neg fun h => hs h.2]
        exact if_neg fun h => hs ((isSampleChannel_iff ch).2 h.2)
    have hgiven {x : Slot} {id : SlotId} (h : x.Takes id p ch sender seq d) : given x id := by
      simp only [given, hjudged]
      exact h
    have hfresh : fresh = Slot.filled ch sender := (filled_eq ch sender).symm
    refine ⟨fun h1 => hgiven (takes_first seq d h1), fun h1 h2 => hgiven (takes_of_holder seq d ?_),
      fun hother h1 => hgiven (takes_of_assign seq d ?_), fun hother h1 h2 => hgiven (takes_of_assign seq d ?_),
      fun hother h1 h2 => ?_⟩
    · exact (if_neg h1).trans (if_pos h2)
    · rw [hfresh]
      exact (if_neg hother.1).trans ((if_neg hother.2).trans (if_pos h1))
    · rw [hfresh]
      exact (if_neg hother.1).trans ((if_neg hother.2).trans ((if_neg h1).trans (if_pos h2)))
    · have hassign : p.assign ch sender =
          (p.setChan ch { p.chan ch with extra := inc (p.chan ch).extra }, none) :=
        (if_neg hother.1).trans ((if_neg hother.2).trans ((if_neg h1).trans (if_neg h2)))
      simp only [t, take_of_extra seq d hassign]
      refine ⟨trivial, fun c i => ?_, fun c => ?_, rfl, rfl⟩
      · rw [ProducerTable.slot, chan_setChan]
        split
        · next h => subst h; cases i <;> rfl
        · rfl
      · rw [chan_setChan]
        split
        · next h => subst h; rfl
        · rfl

end Sys2Proof.Machine
end

section
/-! PROOFS. Sample values and sample sets: what a dispatched telegram of a sample channel passes on (R66, R70 to R78). -/

namespace Sys2Proof.Machine

variable {s : State}

/-! ## The table of the part replaced (R170) -/

theorem setProducers_stale (p : ProducerTable) (s : State) : setProducers p s = { s with
    prod := p,
    display := { s.display with
      stale := s.display.stale || decide (p.channelStates ≠ s.prod.channelStates ∨ p.degraded ≠ s.prod.degraded) } } := by
  unfold setProducers
  split
  · next h => simp [h.1, h.2]
  · next h =>
    have hchanged : p.channelStates ≠ s.prod.channelStates ∨ p.degraded ≠ s.prod.degraded :=
      not_and_or.1 h
    simp [hchanged, notice]

/-! ## The chosen source (R66) -/

/-- A chosen source is a slot with a fresh value. -/
theorem source_selectable {p : ProducerTable} {ch : Channel} {id : SlotId} (h : p.source ch = some id) :
    (p.slot ch id).selectable ch = true := by
  unfold ProducerTable.source at h
  split at h
  · cases h; assumption
  · split at h
    · cases h; assumption
    · cases h

theorem lastValue_of_fresh {x : Slot} {ch : Channel} (h : x.isFresh ch = true) : ∃ v, x.lastValue = some v := by
  unfold Slot.isFresh at h
  cases hv : x.lastValue with
  | none => simp [hv] at h
  | some v => exact ⟨v, rfl⟩

theorem sourceValue_of_source {p : ProducerTable} {ch : Channel} (h : (p.source ch).isSome = true) :
    p.sourceValue ch = some ((p.sourceValue ch).getD 0) := by
  obtain ⟨id, hid⟩ := Option.isSome_iff_exists.1 h
  have hfresh : (p.slot ch id).isFresh ch = true := by
    have := source_selectable hid
    simp only [Slot.selectable, Bool.and_eq_true] at this
    exact this.1.2
  obtain ⟨v, hv⟩ := lastValue_of_fresh hfresh
  simp [ProducerTable.sourceValue, hid, hv]

/-! ## Values passed on (R70, R76) -/

section
variable {r : RxTelegram} {rest : List RxTelegram} {ch : Channel}

/-- What a value of the chosen source brings about (R70, R76). -/
def sampleUsed (ch : Channel) (v : Int) (s : State) : State :=
  match ch with
  | .head => assembleSet s
  | .boom => cycleBoom v (weigherBoom v s)
  | .bucket => cycleBucket v s
  | .drive => cycleDrive v s
  | .rod | .pitch | .time | .truck => s

theorem useSample_of_not_source {id : SlotId} (h : s.prod.source ch ≠ some id) : useSample ch id s = s := if_neg h

theorem useSample_of_source {id : SlotId} (h : s.prod.source ch = some id) :
    useSample ch id s = sampleUsed ch ((s.prod.sourceValue ch).getD 0) s :=
  (if_pos h).trans (by cases ch <;> rfl)

theorem useAccepted_of_sample (h : isSampleChannel ch = true) (id : SlotId) (r : RxTelegram) (s : State) :
    useAccepted ch id r s = useSample ch id s := by
  cases ch with
  | time => cases h
  | truck => cases h
  | head | rod | boom | bucket | pitch | drive => rfl

/-- A telegram of a sample channel that is not accepted, or whose slot is not the source, ends at the table. -/
theorem exec_dispatch_unused (hpow : s.pins.resetLow = false) (hover : s.closingOver = false)
    (hinbox : s.line.inbox = r :: rest) (hch : r.kind.channel = some ch) (hsample : isSampleChannel ch = true)
    (h : (tableTook ch r s).2 = none ∨ (tableTook ch r s).1.source ch ≠ (tableTook ch r s).2) :
    exec .dispatch s = .next (tableTaken ch r rest s) := by
  cases htook : (tableTook ch r s).2 with
  | none => exact exec_dispatch_unaccepted hpow hover hinbox hch htook
  | some id =>
    have hsource : (tableTook ch r s).1.source ch ≠ some id := by
      rw [htook] at h
      exact h.resolve_left (by simp)
    rw [exec_dispatch_accepted hpow hover hinbox hch htook, useAccepted_of_sample hsample, useSample_of_not_source]
    rwa [setProducers_prod']

/-- An accepted telegram of a sample channel is used where its slot is the source. -/
theorem exec_dispatch_used (hpow : s.pins.resetLow = false) (hover : s.closingOver = false)
    (hinbox : s.line.inbox = r :: rest) (hch : r.kind.channel = some ch) (hsample : isSampleChannel ch = true)
    (h : (tableTook ch r s).2.isSome = true) (hsource : (tableTook ch r s).1.source ch = (tableTook ch r s).2) :
    exec .dispatch s = .next
      (sampleUsed ch (((tableTook ch r s).1.sourceValue ch).getD 0) (tableTaken ch r rest s)) := by
  obtain ⟨id, hid⟩ := Option.isSome_iff_exists.1 h
  have hprod : (tableTaken ch r rest s).prod.source ch = some id := by
    rw [setProducers_prod', hsource, hid]
  rw [exec_dispatch_accepted hpow hover hinbox hch hid, useAccepted_of_sample hsample, useSample_of_source hprod,
    setProducers_prod']

/-- An accepted telegram of a sample channel leaves its value in the slot, as its channel stores it (R63). -/
theorem lastValue_of_accepts (hsample : isSampleChannel ch = true) (h : s.accepts ch r = true) :
    ((tableTook ch r s).1.slot ch .primary).lastValue =
      some (storedValue ch (carriedValue ch r.data).1 (carriedValue ch r.data).2).1 := by
  have hstation : ((s.prod.hear r.sender).slot ch .primary).station = some r.sender := by
    rw [slot_hear, (hear_keeps _ _).1]
    simp only [State.accepts, Bool.and_eq_true, beq_iff_eq] at h
    exact h.1
  obtain ⟨haccepted, hslots, -⟩ := takes_first r.seq r.data hstation
  have hjudge : (((s.prod.hear r.sender).slot ch .primary).judgeSeq r.seq).2 = true := by
    have := haccepted.symm.trans (take_of_accepts h)
    by_contra hne
    simp [hne] at this
  rw [hslots, if_pos ⟨rfl, rfl⟩, Slot.judged, if_pos ⟨hjudge, hsample⟩]
  rfl

end

/-- Settles O28: a value of the chosen source goes on, and no other does. -/
theorem valuesArePassedOn : Obligations.ValuesArePassedOn := by
  refine ⟨fun r rest ch s hpow hover hinbox hch hmem => ?_, fun v s => rfl⟩
  have hsample : isSampleChannel ch = true := by
    simp only [List.mem_cons, List.not_mem_nil, or_false] at hmem
    obtain rfl | rfl | rfl | rfl | rfl := hmem <;> rfl
  intro took p changed u
  have hu : tableTaken ch r rest s = u := setProducers_stale _ _
  have hused := exec_dispatch_used hpow hover hinbox hch hsample
  have hunused := exec_dispatch_unused hpow hover hinbox hch hsample
  rw [hu] at hused hunused
  refine ⟨hunused, fun hrod => ?_, fun v hsome hsource hvalue => ?_, fun hacc => ?_⟩
  · by_cases h : (tableTook ch r s).2 = none ∨ (tableTook ch r s).1.source ch ≠ (tableTook ch r s).2
    · exact hunused h
    · obtain ⟨hsome, hsource⟩ := not_or.1 h
      have := hused (Option.isSome_iff_ne_none.2 hsome) (not_not.1 hsource)
      obtain rfl | rfl := hrod <;> exact this
  · have := hused hsome hsource
    rw [show (tableTook ch r s).1.sourceValue ch = some v from hvalue] at this
    refine ⟨?_, ?_, ?_⟩ <;> rintro rfl <;> exact this
  · refine ⟨take_of_accepts hacc, ?_, ?_, ?_⟩ <;> rintro rfl <;> exact lastValue_of_accepts rfl hacc

/-! ## Disagreements (R57, R74) -/

theorem disagrees_iff (p : ProducerTable) (ch : Channel) : p.disagrees ch = true ↔
    (∀ id, (p.slot ch id).state = .active ∧ (p.slot ch id).isFresh ch = true ∧
      (p.slot ch id).lastStatus = some .ok) ∧
    ∀ v w, (p.slot ch .primary).lastValue = some v → (p.slot ch .secondary).lastValue = some w →
      v - w < -(tolerance ch) ∨ tolerance ch < v - w := by
  have hcomparable (x : Slot) : x.comparable ch = true ↔
      x.state = .active ∧ x.isFresh ch = true ∧ x.lastStatus = some .ok := by
    simp [Slot.comparable, and_assoc]
  have hboth : (∀ id, (p.slot ch id).comparable ch = true) ↔
      (p.slot ch .primary).comparable ch = true ∧ (p.slot ch .secondary).comparable ch = true :=
    ⟨fun h => ⟨h _, h _⟩, fun h id => by cases id; exacts [h.1, h.2]⟩
  simp only [← hcomparable, hboth, ProducerTable.disagrees, Bool.and_eq_true, decide_eq_true_eq]
  refine and_congr_right fun hcmp => ?_
  obtain ⟨v, hv⟩ := lastValue_of_fresh ((hcomparable _).1 hcmp.1).2.1
  obtain ⟨w, hw⟩ := lastValue_of_fresh ((hcomparable _).1 hcmp.2).2.1
  simp only [hv, hw, Option.getD_some, Option.some.injEq]
  constructor
  · rintro h _ _ rfl rfl
    omega
  · intro h
    have := h v w rfl rfl
    omega

theorem slot_countDisagree (q : ProducerTable) (c ch : Channel) (id : SlotId) :
    (q.setChan c (q.chan c).countDisagree).slot ch id =
      if ch = c then { q.slot ch id with disagree := inc (q.slot ch id).disagree } else q.slot ch id := by
  rw [ProducerTable.slot, chan_setChan]
  split
  · next h => subst h; cases id <;> rfl
  · rfl

/-- Counting the disagreements of some channels, each once. -/
theorem countDisagreements_of (p : ProducerTable) : ∀ (l : List Channel) (q : ProducerTable), l.Nodup →
    let t := l.foldl (fun q ch => if p.disagrees ch then q.setChan ch (q.chan ch).countDisagree else q) q
    (∀ ch id, t.slot ch id = { q.slot ch id with
      disagree := if ch ∈ l ∧ p.disagrees ch = true then inc (q.slot ch id).disagree else (q.slot ch id).disagree }) ∧
      t.skipped = q.skipped ∧ t.rejected = q.rejected
  | [], q, _ => by simp
  | c :: l, q, hnodup => by
    obtain ⟨hc, hl⟩ := List.nodup_cons.1 hnodup
    by_cases hd : p.disagrees c = true
    · obtain ⟨hslot, hskip, hrej⟩ := countDisagreements_of p l (q.setChan c (q.chan c).countDisagree) hl
      refine ⟨fun ch id => ?_, ?_, ?_⟩
      · simp only [List.foldl_cons, hd, if_true, hslot, slot_countDisagree, List.mem_cons]
        by_cases h : ch = c
        · subst h; simp [hc, hd]
        · simp [h]
      · simp only [List.foldl_cons, hd, if_true, hskip]; rfl
      · simp only [List.foldl_cons, hd, if_true, hrej]; rfl
    · obtain ⟨hslot, hskip, hrej⟩ := countDisagreements_of p l q hl
      refine ⟨fun ch id => ?_, ?_, ?_⟩
      · simp only [List.foldl_cons, hd, Bool.false_eq_true, if_false, hslot, List.mem_cons]
        by_cases h : ch = c
        · subst h; simp [hd]
        · simp [h]
      · simpa only [List.foldl_cons, hd, Bool.false_eq_true, if_false] using hskip
      · simpa only [List.foldl_cons, hd, Bool.false_eq_true, if_false] using hrej

/-! ## Sample sets (R70 to R75) -/

theorem sources_of_missing {p : ProducerTable} (h : p.missing = []) :
    (p.source .rod).isSome = true ∧ (p.source .boom).isSome = true ∧ (p.source .bucket).isSome = true := by
  simpa [ProducerTable.missing, ProducerTable.available, List.filter_eq_nil_iff, Option.isSome_iff_ne_none] using h

theorem assembleSet_of_missing (h : s.prod.missing ≠ []) : assembleSet s =
    skipNotice s.prod.missing { s with prod := { s.prod with skipped := inc s.prod.skipped } } := if_pos h

theorem assembleSet_of_over (h : s.prod.missing = []) (hover : (s.prod.sourceOver .head || s.prod.sourceOver .rod) = true) :
    assembleSet s = { s with prod := { s.prod with rejected := inc s.prod.rejected } } :=
  (if_neg (not_not.2 h)).trans (if_pos hover)

theorem assembleSet_of_set (h : s.prod.missing = []) (hover : (s.prod.sourceOver .head || s.prod.sourceOver .rod) = false) :
    assembleSet s = deliverSet s.prod.sampleSet { s with prod := s.prod.countDisagreements } :=
  (if_neg (not_not.2 h)).trans (if_neg (by simp [hover]))

theorem deliverSet_of_mode (x : SampleSet)
    (hmode : s.modeCtl.mode = .join ∨ s.modeCtl.mode = .run ∨ s.modeCtl.mode = .closing) :
    deliverSet x s = weigherSet x s := by
  obtain h | h | h := hmode <;> rw [deliverSet, h]

theorem isArmed_iff (c : CaptureState) : c.isArmed = true ↔ c = .emptyArmed ∨ c = .loadedArmed := by
  simp [CaptureState.isArmed]

theorem deliverSet_of_service (x : SampleSet) (hmode : s.modeCtl.mode = .service) :
    deliverSet x s = if s.cal.capture.isArmed then captureSet x s else s := by
  rw [deliverSet, hmode]

theorem belowOrAbove_eq (lastBoom : Option Int) (lo : Int) :
    belowOrAbove lastBoom lo = if lastBoom.any (fun v => v < lo) then .below else .above := by
  cases lastBoom <;> simp [belowOrAbove]

/-- Settles O25: a dispatched HEAD value skips, rejects or delivers a set. -/
theorem setsAreDelivered : Obligations.SetsAreDelivered := by
  intro r rest s hpow hover hinbox hkind took p u skipped tooHigh x compared
  have hch : r.kind.channel = some .head := by rw [hkind]; rfl
  have hu : u.prod = p := setProducers_prod' _ _
  obtain ⟨b, hframe⟩ : ∃ b, u = { s with
      line := { s.line with inbox := rest }, prod := p, display := { s.display with stale := b } } :=
    ⟨_, setProducers_stale _ _⟩
  refine ⟨exec_dispatch_unused hpow hover hinbox hch rfl, fun hsome hsource => ?_⟩
  have htaken : tableTaken .head r rest s = u := rfl
  have hchosen : (tableTook .head r s).1.source .head = (tableTook .head r s).2 := hsource
  have hexec := exec_dispatch_used hpow hover hinbox hch rfl hsome hchosen
  rw [htaken, sampleUsed] at hexec
  rw [hexec]
  clear_value u p took
  refine ⟨fun hmissing hnot => ?_, fun hboom hwin => ?_, fun hmissing hhigh => ?_, fun hmissing hlow => ?_⟩
  · rw [assembleSet_of_missing (by rwa [hu]), hu, skipNotice, if_neg]
    · rfl
    · rw [hframe]
      exact hnot
  · rw [assembleSet_of_missing (by rw [hu]; exact List.ne_nil_of_mem hboom), hu, skipNotice, if_pos, abortLift_eq,
      belowOrAbove_eq]
    · rw [hframe]
      rfl
    · rw [hframe]
      exact ⟨hwin, hboom⟩
  · rw [assembleSet_of_over (by rwa [hu]) (by rwa [hu]), hu]
    rfl
  · obtain ⟨hrod, hboom, hbucket⟩ := sources_of_missing hmissing
    have hhead : (p.source .head).isSome = true := by rw [hsource]; exact hsome
    obtain ⟨hslots, hskipped, hrejected⟩ := countDisagreements_of p comparedChannels p (by decide)
    have hset := assembleSet_of_set (s := u) (by rwa [hu]) (by rwa [hu])
    rw [hu] at hset
    rw [hset]
    have hmode : u.modeCtl = s.modeCtl := by rw [hframe]
    have hcal : u.cal = s.cal := by rw [hframe]
    refine ⟨sourceValue_of_source hhead, sourceValue_of_source hrod, sourceValue_of_source hboom,
      sourceValue_of_source hbucket, rfl, rfl, rfl, disagrees_iff p, hslots, hskipped, hrejected, fun h => ?_,
      fun h hcap => ?_, fun h h1 h2 => ?_⟩
    · rw [deliverSet_of_mode]
      exact hmode ▸ h
    · rw [deliverSet_of_service _ (hmode ▸ h), if_pos]
      exact hcal ▸ (isArmed_iff _).2 hcap
    · rw [deliverSet_of_service _ (hmode ▸ h), if_neg]
      exact hcal ▸ fun harm => ((isArmed_iff _).1 harm).elim h1 h2

end Sys2Proof.Machine
end

section
/-! PROOFS. Trucks and passes: commits, deletions, announcements and departures (R84 to R93, R101 to R121). -/

namespace Sys2Proof.Machine

variable {s : State}

/-! ## Telegrams handed over (R215) -/

theorem transmit_eq (k : TxKind) (d : List Word) (s : State) :
    transmit k d s = { s with line := (transmit k d s).line } := by
  unfold transmit
  split <;> rfl

/-- What handing a telegram over leaves of the line depends on the line and on LISTEN_ONLY alone. -/
theorem transmit_line_congr {t : State} (k : TxKind) (d : List Word) (hline : t.line = s.line)
    (hmode : t.modeCtl = s.modeCtl) : (transmit k d t).line = (transmit k d s).line := by
  rw [transmit_line, transmit_line, muted, muted, hline, hmode]

/-- Handing a telegram over, from a state with the same line. -/
theorem transmit_from {t : State} (k : TxKind) (d : List Word) (hline : t.line = s.line)
    (hmode : t.modeCtl = s.modeCtl) : transmit k d t = { t with line := (transmit k d s).line } := by
  rw [← transmit_line_congr k d hline hmode]
  exact transmit_eq k d t

theorem sendTruckState_from {t : State} (e : TruckEntry) (position : TruckPosition) (n : Nat) (hline : t.line = s.line)
    (hmode : t.modeCtl = s.modeCtl) (hshift : t.tally.shift = s.tally.shift) (hrated : ratedLoad t = ratedLoad s) :
    sendTruckState e position n t = { t with line := (transmit .truckState (truckStateData s.tally.shift e position
      (if position = .head then adviceFor (ratedLoad s) e else .none) n) s).line } := by
  rw [sendTruckState, hshift, hrated]
  exact transmit_from _ _ hline hmode

/-! ## A commit (R84 to R87, R103 to R106) -/

/-- A part whose head, now `e`, has taken the pass `p`: counted, and its PASS_RESULT handed over (R86, R104). -/
def passTaken (e : TruckEntry) (rest : List TruckEntry) (identity : Option (BitVec 32)) (p : PassRecord)
    (s : State) : State :=
  { s with
    trucks := { s.trucks with entries := e :: rest },
    tally := s.tally.passCommitted p.weight.toNat,
    line := (transmit .passResult (passResultData s.tally.shift identity e.passes.length p) s).line,
    display := { s.display with stale := true } }

theorem passTaken_eq (e : TruckEntry) (rest : List TruckEntry) (identity : Option (BitVec 32)) (p : PassRecord)
    (s : State) : transmit .passResult (passResultData s.tally.shift identity e.passes.length p)
      (tallyRequest (fun f => f.passCommitted p.weight.toNat) (setEntries (e :: rest) s)) =
        passTaken e rest identity p s :=
  transmit_from (s := s) _ _ rfl rfl

theorem truckCommit_eq (p : PassRecord) (s : State) :
    truckCommit p s =
      let e := (headForCommit s).1
      let rest := (headForCommit s).2
      let e' := e.withPass s.cal.active.overTolerance p
      let taken := passTaken e' rest e.identity p s
      if e'.passes.length = 15 then closeHead .passLimit taken
      else sendTruckState e' .head (rest.length + 1) taken := by
  rw [truckCommit]
  dsimp only
  rw [passTaken_eq]

theorem withPass_length (e : TruckEntry) (tolerance : Int) (p : PassRecord) :
    (e.withPass tolerance p).passes.length = e.passes.length + 1 := by
  simp [TruckEntry.withPass, TruckEntry.judged]

/-- A commit with a pending pass, and its reports (R85, R87, R93). -/
theorem takeDump_of_pending {p : PassRecord} (h : s.pass.pending = some p) (tag : Nat) :
    takeDump tag s =
      let u := truckCommit p s
      { u with
        pass := { s.pass with pending := none, lastShown := some p },
        mail := { u.mail with commits := u.mail.commits ++ [tag], resolutions := u.mail.resolutions + 1 },
        display := { u.display with stale := true } } := by
  rw [takeDump, h]
  dsimp only [resolvePass_eq, raiseCommitReport]
  rw [truckCommit_pass]

/-- Settles O35: a commit below the fifteenth pass, and the fifteenth. -/
theorem dumpCommits : Obligations.DumpCommits := by
  intro tag rest p s hpow hmode hdumps hpending _ e behind total passes e' result counted
  refine ⟨_, exec_dumpEvent_of_waiting hpow hmode hdumps, ?_⟩
  let u : State := { s with mail := { s.mail with dumps := rest } }
  have hu : (transmit .passResult (passResultData s.tally.shift e.identity (e.passes.length + 1) p) u).line =
      result.line := transmit_line_congr _ _ rfl rfl
  have hresult : result = { s with line := result.line } := transmit_eq _ _ s
  have hlength := withPass_length e s.cal.active.overTolerance p
  have hcommit := truckCommit_eq p u
  rw [show takeDump tag _ = _ from takeDump_of_pending (s := u) hpending tag]
  by_cases hlast : e.passes.length = 14
  · have hclosed : truckCommit p u = closeHead .passLimit (passTaken e' behind e.identity p u) :=
      hcommit.trans (if_pos (hlength.trans (congrArg (· + 1) hlast)))
    rw [hclosed, closeHead_of_cons (e := e') (rest := behind) rfl]
    refine ⟨rfl, rfl, rfl, rfl, rfl, rfl, rfl, rfl, fun h => absurd hlast (Nat.ne_of_lt h), fun _ => ?_⟩
    refine ⟨rfl, rfl, rfl, transmit_line_congr _ _ ?_ ?_, rfl⟩
    · rw [← hu, ← hlength]
      rfl
    · rw [hresult]
      rfl
  · have hsent : truckCommit p u = sendTruckState e' .head (behind.length + 1) (passTaken e' behind e.identity p u) :=
      hcommit.trans (if_neg fun h => hlast (Nat.succ.inj (hlength.symm.trans h)))
    rw [hsent, sendTruckState_from (s := passTaken e' behind e.identity p u) (t := passTaken e' behind e.identity p u)
      _ _ _ rfl rfl rfl rfl]
    refine ⟨rfl, rfl, rfl, rfl, rfl, rfl, rfl, rfl, fun _ => ?_, fun h => absurd h hlast⟩
    refine ⟨rfl, rfl, rfl, transmit_line_congr _ _ ?_ ?_⟩
    · rw [← hu, ← hlength]
      rfl
    · rw [hresult]
      rfl

/-! ## Deletions (R91, R112, R176) -/

theorem exec_deleteHoldExpiry (hpow : s.pins.resetLow = false) {held : Nat} (hheld : s.display.deleteHold = some held)
    (hmode : s.modeCtl.mode = .run) : exec .deleteHoldExpiry s = .next (deleteAction (stopHold s)) :=
  (whilePowered_of_high hpow _).trans (congrArg _ (if_pos ⟨by rw [hheld]; rfl, hmode⟩))

/-- With no pass in the head a delete action only shows its text. -/
theorem deletePass_of_none (h : headHoldsPass s = false) : deletePass s = placeMessage .nothingToDelete s := by
  unfold headHoldsPass at h
  unfold deletePass
  cases hl : s.trucks.entries with
  | nil => rfl
  | cons e rest =>
    have hpasses : e.passes = [] := by simpa [hl] using h
    simp only [hpasses, List.getLast?_nil]

/-- The head's last pass leaves the truck and the shift (R104, R112). -/
theorem deletePass_of_last {e : TruckEntry} {rest : List TruckEntry} {p : CommittedPass}
    (he : s.trucks.entries = e :: rest) (hp : e.passes.getLast? = some p) :
    deletePass s =
      let e' := e.withoutLast s.cal.active.overTolerance p.weight
      { s with
        trucks := { s.trucks with entries := e' :: rest },
        tally := s.tally.passDeleted p.weight.toNat,
        pass := { s.pass with lastShown := none },
        line := (transmit .truckState (truckStateData s.tally.shift e' .head (adviceFor (ratedLoad s) e')
          (rest.length + 1)) s).line,
        display := { s.display with
          message := some (.passDeleted e.passes.length), messageTimer := some 3000, stale := true } } := by
  unfold deletePass
  rw [he]
  simp only [hp]
  rw [sendTruckState_from (s := s)]
  all_goals rfl

theorem passDeleted_eq (f : ShiftFigures) (weight : Nat) : f.passDeleted weight = { f with
    passes := if f.passes = 65535 then 65535 else f.passes - 1,
    payload := if f.payload = 4294967295 then 4294967295 else f.payload - weight } := by
  have hsub (limit n k : Nat) : satSub limit n k = if n = limit then limit else n - k := by
    unfold satSub
    split <;> simp_all
  simp only [ShiftFigures.passDeleted, hsub, limit16, limit32]

/-- Settles O37: a pending pass, an empty head, and the head's last pass. -/
theorem deleteHoldDeletes : Obligations.DeleteHoldDeletes := by
  intro held s hpow hheld hmode shown
  rw [exec_deleteHoldExpiry hpow hheld hmode]
  refine ⟨fun hpending => ?_, fun hnone hhead => ?_, fun e rest p hnone he hp => ?_⟩
  · obtain ⟨p, hp⟩ := Option.isSome_iff_exists.1 hpending
    rw [deleteAction, show (stopHold s).pass.pending = some p from hp]
    rfl
  · rw [deleteAction, show (stopHold s).pass.pending = none from hnone]
    exact congrArg _ (deletePass_of_none (s := stopHold s) hhead)
  · rw [deleteAction, show (stopHold s).pass.pending = none from hnone]
    have hline (d : List Word) : (transmit .truckState d (stopHold s)).line = (transmit .truckState d s).line :=
      transmit_line_congr _ d rfl rfl
    refine congrArg _ ((deletePass_of_last (s := stopHold s) he hp).trans ?_)
    simp only [hline, passDeleted_eq]
    rfl

/-! ## Notices from trucks (R107 to R110) -/

theorem findTruck_eq_none_iff (id : BitVec 32) (l : List TruckEntry) :
    findTruck id l = none ↔ ∀ e ∈ l, e.identity ≠ some id := by
  simp [findTruck, List.findIdx?_eq_none_iff]

/-- The first entry of an identity is the one found. -/
theorem findTruck_of_split {id : BitVec 32} {front back : List TruckEntry} {e : TruckEntry}
    (hfront : ∀ f ∈ front, f.identity ≠ some id) (he : e.identity = some id) :
    findTruck id (front ++ e :: back) = some front.length := by
  have hnone : front.findIdx? (fun e => e.identity == some id) = none := (findTruck_eq_none_iff id front).2 hfront
  rw [findTruck, List.findIdx?_append, hnone]
  simp [List.findIdx?_cons, he]

theorem takesNotices_iff (m : Mode) : takesNotices m = true ↔ m = .join ∨ m = .run ∨ m = .service := by
  cases m <;> simp [takesNotices]

theorem announce_unlisted {id : BitVec 32} {target : Int} (hmode : takesNotices s.modeCtl.mode = true)
    (h : findTruck id s.trucks.entries = none) : announce id target s =
      if s.trucks.entries.length < 4 then
        setEntries (s.trucks.entries ++
          [{ identity := some id, target := clampTarget target, passes := [], total := 0,
             flags := { overload := false, quality := false } }]) s
      else placeMessage .truckListFull { s with trucks := { s.trucks with refused := inc s.trucks.refused } } := by
  rw [announce, if_pos hmode]
  simp only [h]

theorem announce_listed {id : BitVec 32} {target : Int} {front back : List TruckEntry} {e : TruckEntry}
    (hmode : takesNotices s.modeCtl.mode = true) (hl : s.trucks.entries = front ++ e :: back)
    (hfront : ∀ f ∈ front, f.identity ≠ some id) (he : e.identity = some id) :
    announce id target s = retarget front.length e (clampTarget target) s := by
  rw [announce, if_pos hmode]
  have hget : s.trucks.entries[front.length]? = some e := by simp [hl]
  simp only [hl ▸ findTruck_of_split (back := back) hfront he, hget]

/-- A listed truck takes a target and is judged anew; its TRUCK_STATE follows where the target has changed
(R108, R121). -/
theorem retarget_of_split {front back : List TruckEntry} {e : TruckEntry} (target : Int)
    (hl : s.trucks.entries = front ++ e :: back) :
    retarget front.length e target s =
      let e' := TruckEntry.judged { e with target := target } s.cal.active.overTolerance
      { s with
        trucks := { s.trucks with entries := front ++ e' :: back },
        display := { s.display with stale := true },
        line := if target = e.target then s.line
          else (transmit .truckState (truckStateData s.tally.shift e' (if front = [] then .head else .waiting)
            (if front = [] then adviceFor (ratedLoad s) e' else .none) s.trucks.entries.length) s).line } := by
  have hset (e' : TruckEntry) : s.trucks.entries.set front.length e' = front ++ e' :: back := by simp [hl]
  unfold retarget
  simp only [hset]
  by_cases htarget : target = e.target
  · simp only [htarget, if_true]
    rfl
  · simp only [htarget, if_false]
    rw [sendTruckState_from (s := s)]
    · cases front <;> rfl
    all_goals rfl

theorem announce_frame (id : BitVec 32) (target : Int) (s : State) : announce id target s = { s with
    line := (announce id target s).line, trucks := (announce id target s).trucks,
    display := (announce id target s).display } := by
  have hretarget (n : Nat) (e : TruckEntry) (v : Int) : retarget n e v s = { s with
      line := (retarget n e v s).line, trucks := (retarget n e v s).trucks,
      display := (retarget n e v s).display } := by
    unfold retarget
    dsimp only
    split
    · rfl
    · rw [sendTruckState, transmit_eq]
      rfl
  unfold announce
  split
  · dsimp only
    split
    · split
      · exact hretarget _ _ _
      · rfl
    · split <;> rfl
  · rfl

/-- A telegram of a channel accepted by slot 1 in JOIN, RUN or SERVICE, and the table and the display before it is
used. -/
theorem exec_dispatch_accepts {r : RxTelegram} {rest : List RxTelegram} {ch : Channel} (hpow : s.pins.resetLow = false)
    (hmode : s.modeCtl.mode = .join ∨ s.modeCtl.mode = .run ∨ s.modeCtl.mode = .service)
    (hinbox : s.line.inbox = r :: rest) (hch : r.kind.channel = some ch) (hacc : s.accepts ch r = true) :
    ∃ p b, exec .dispatch s = .next (useAccepted ch .primary r { s with
      line := { s.line with inbox := rest }, prod := p, display := { s.display with stale := b } }) := by
  have hover : s.closingOver = false := not_over_of_mode (by obtain h | h | h := hmode <;> simp [h])
  have hexec := exec_dispatch_accepted hpow hover hinbox hch (take_of_accepts hacc)
  rw [tableTaken, setProducers_stale] at hexec
  exact ⟨_, _, hexec⟩

/-- Settles O38: an identity not listed joins or is refused, and a listed one takes its target. -/
theorem announcementsAreListed : Obligations.AnnouncementsAreListed := by
  intro r rest s hpow hmode hinbox hkind hacc id target quiet
  have hch : r.kind.channel = some .truck := by rw [hkind]; rfl
  have htakes := (takesNotices_iff _).2 hmode
  have hclamp : clampTarget (announceFields r.data).2 = target := rfl
  clear_value target
  obtain ⟨p, b, hexec⟩ := exec_dispatch_accepts hpow hmode hinbox hch hacc
  refine ⟨_, hexec, ?_⟩
  rw [useAccepted, useNotice, if_neg (by rw [hkind]; decide)]
  let u : State := { s with
    line := { s.line with inbox := rest }, prod := p, display := { s.display with stale := b } }
  change announce _ _ u = { s with
    line := (announce _ _ u).line, prod := (announce _ _ u).prod, trucks := (announce _ _ u).trucks,
    display := (announce _ _ u).display } ∧ _
  have hfree (h : ∀ e ∈ s.trucks.entries, e.identity ≠ some id) :=
    announce_unlisted (s := u) (target := (announceFields r.data).2) htakes ((findTruck_eq_none_iff id _).2 h)
  have hlisted {front e back} (hl : s.trucks.entries = front ++ e :: back)
      (hfront : ∀ f ∈ front, f.identity ≠ some id) (he : e.identity = some id) :=
    (announce_listed (s := u) (target := (announceFields r.data).2) htakes hl hfront he).trans
      (retarget_of_split (s := u) _ hl)
  simp only [hclamp] at hfree hlisted
  refine ⟨?_, fun h => ⟨fun hroom => ?_, fun hfull => ?_⟩, fun front e back hl hfront he => ?_⟩
  · have hframe := announce_frame (announceFields r.data).1 (announceFields r.data).2 u
    have hprod : (announce (announceFields r.data).1 (announceFields r.data).2 u).prod = p := by rw [hframe]
    rw [hprod]
    exact hframe
  · rw [hfree h, if_pos hroom]
    exact ⟨rfl, rfl, rfl⟩
  · rw [hfree h, if_neg (not_lt.2 hfull)]
    exact ⟨rfl, rfl, rfl⟩
  · rw [hlisted hl hfront he]
    refine ⟨rfl, rfl, fun h => if_pos h, fun h => (if_neg h).trans ?_⟩
    exact transmit_line_congr _ _ rfl rfl

/-! ## Departures (R110, R113) -/

theorem depart_unlisted {id : BitVec 32} (hmode : takesNotices s.modeCtl.mode = true)
    (h : findTruck id s.trucks.entries = none) :
    depart id s = notice { s with trucks := { s.trucks with unknown := inc s.trucks.unknown } } := by
  rw [depart, if_pos hmode]
  simp only [h]

theorem depart_listed {id : BitVec 32} {front back : List TruckEntry} {e : TruckEntry}
    (hmode : takesNotices s.modeCtl.mode = true) (hl : s.trucks.entries = front ++ e :: back)
    (hfront : ∀ f ∈ front, f.identity ≠ some id) (he : e.identity = some id) :
    depart id s = if front = [] ∧ e.passes ≠ [] then closeHead .departed s else setEntries (front ++ back) s := by
  rw [depart, if_pos hmode]
  simp only [hl, findTruck_of_split (back := back) hfront he]
  cases front with
  | nil => simp
  | cons f front => simp [List.eraseIdx_append_of_length_le]

theorem closeHead_frame (reason : CloseReason) (s : State) : closeHead reason s = { s with
    trucks := (closeHead reason s).trucks, tally := (closeHead reason s).tally,
    journal := (closeHead reason s).journal, line := (closeHead reason s).line,
    display := (closeHead reason s).display } := by
  cases he : s.trucks.entries with
  | nil => simp only [closeHead, he]
  | cons e rest => rw [closeHead_of_cons he]

theorem depart_frame (id : BitVec 32) (s : State) : depart id s = { s with
    trucks := (depart id s).trucks, tally := (depart id s).tally, journal := (depart id s).journal,
    line := (depart id s).line, display := (depart id s).display } := by
  unfold depart
  split
  · split
    · rfl
    · split
      · split
        · exact closeHead_frame _ s
        · rfl
      · rfl
  · rfl

/-- Settles O39: an identity not listed, an entry that leaves without a close, and a head that closes. -/
theorem departuresAreTaken : Obligations.DeparturesAreTaken := by
  intro r rest s hpow hmode hinbox hkind hacc id
  have hch : r.kind.channel = some .truck := by rw [hkind]; rfl
  have htakes := (takesNotices_iff _).2 hmode
  obtain ⟨p, b, hexec⟩ := exec_dispatch_accepts hpow hmode hinbox hch hacc
  rw [useAccepted, useNotice, if_pos hkind] at hexec
  let u : State := { s with
    line := { s.line with inbox := rest }, prod := p, display := { s.display with stale := b } }
  have hlisted {front e back} (hl : s.trucks.entries = front ++ e :: back)
      (hfront : ∀ f ∈ front, f.identity ≠ some id) (he : e.identity = some id) :=
    depart_listed (s := u) htakes hl hfront he
  refine ⟨_, hexec, (depart_ordinary id u).line.inbox, ?_⟩
  change (depart id u).pass = u.pass ∧ (depart id u).weigher = u.weigher ∧ (depart id u).cycle = u.cycle ∧
    (depart id u).cal = u.cal ∧ (depart id u).clock = u.clock ∧ _
  have hframe := depart_frame id u
  refine ⟨by rw [hframe], by rw [hframe], by rw [hframe], by rw [hframe], by rw [hframe], fun h => ?_,
    fun front e back hl hfront he hor => ?_, fun e back hl he hpasses => ?_⟩
  · change (depart id u).trucks = _ ∧ (depart id u).line = _ ∧ (depart id u).tally = _ ∧ (depart id u).journal = _
    rw [depart_unlisted (s := u) htakes ((findTruck_eq_none_iff id _).2 h)]
    exact ⟨rfl, rfl, rfl, rfl⟩
  · change (depart id u).trucks = _ ∧ (depart id u).line = _ ∧ (depart id u).tally = _ ∧ (depart id u).journal = _ ∧
      (depart id u).display = _
    rw [hlisted hl hfront he, if_neg fun h => hor.elim (absurd h.1) h.2]
    exact ⟨rfl, rfl, rfl, rfl, rfl⟩
  · change (depart id u).trucks = _ ∧ (depart id u).tally = _ ∧ (depart id u).journal = _ ∧ (depart id u).line = _ ∧
      (depart id u).display = _
    rw [hlisted (front := []) hl (by simp) he, if_pos ⟨rfl, hpasses⟩, closeHead_of_cons (s := u) hl]
    exact ⟨rfl, rfl, rfl, transmit_line_congr _ _ rfl rfl, rfl⟩

end Sys2Proof.Machine
end

section
/-! PROOFS. Timer limits and reports (R21, R22, R31, R49, R89, R139, R141, R154, R179). -/

namespace Sys2Proof.Machine

variable {s : State}

/-! ## Timers -/

theorem exec_inputLost (hpow : s.pins.resetLow = false) :
    exec .inputLost s = .next (lapseLift (inputLostDue s) .inputLost s) :=
  whilePowered_of_high hpow (fun s => lapseLift (inputLostDue s) .inputLost s)

theorem exec_stall (hpow : s.pins.resetLow = false) : exec .stall s = .next (lapseLift (stallDue s) .stall s) :=
  whilePowered_of_high hpow (fun s => lapseLift (stallDue s) .stall s)

theorem exec_captureInputLost (hpow : s.pins.resetLow = false) : exec .captureInputLost s = .next (lapseCapture s) :=
  whilePowered_of_high hpow lapseCapture

theorem lapseLift_of_due {due : Bool} (h : due = true) (reason : AbortReason) (s : State) :
    lapseLift due reason s = { s with
      weigher := { s.weigher with
        acc := .cleared,
        state := if s.weigher.lastBoom.any (fun v => v < s.cal.active.thetaLo) then .below else .above },
      tally := { s.tally with aborted := min 65535 (s.tally.aborted + 1) },
      display := { s.display with
        message := some (.liftAborted reason), messageTimer := some 3000, stale := true } } := by
  rw [lapseLift, if_pos h, abortLift_eq, belowOrAbove_eq]
  rfl

theorem lapseLift_of_not_due {due : Bool} (h : due = false) (reason : AbortReason) (s : State) :
    lapseLift due reason s = s := by simp [lapseLift, h]

theorem reached_of_eq (limit : Nat) : reached limit (some limit) = true := by simp [reached]

theorem not_reached_of_lt {limit n : Nat} (h : n < limit) : reached limit (some n) = false := by simp [reached, h]

theorem captureLostDue_iff (s : State) : captureLostDue s = true ↔
    (s.cal.capture = .emptyArmed ∨ s.cal.capture = .loadedArmed) ∧ s.cal.phase = .inCapture ∧
      reached 250 s.cal.inputTimer = true := by
  simp [captureLostDue, isArmed_iff, and_assoc]

/-- Settles O29: each timer at its limit, and those of a lift and of a capture below it. -/
theorem timersReachTheirLimits : Obligations.TimersReachTheirLimits := by
  refine ⟨fun s hpow => ⟨fun hwin => ⟨fun hinput => ?_, fun hstall => ?_, fun n hinput hlt => ?_, fun n hstall hlt => ?_⟩,
    fun n hinput hlt => ?_, fun harmed hphase hinput => ?_⟩, fun s hpow => ⟨fun hmode hhold => ?_, ?_, fun hmessage => ?_⟩⟩
  · rw [exec_inputLost hpow, lapseLift_of_due]
    simp [inputLostDue, hwin, hinput, reached_of_eq]
  · rw [exec_stall hpow, lapseLift_of_due]
    simp [stallDue, hwin, hstall, reached_of_eq]
  · rw [exec_inputLost hpow, lapseLift_of_not_due]
    simp [inputLostDue, hinput, not_reached_of_lt hlt]
  · rw [exec_stall hpow, lapseLift_of_not_due]
    simp [stallDue, hstall, not_reached_of_lt hlt]
  · have hnot : ¬captureLostDue s = true := fun h => by
      obtain ⟨-, -, hreached⟩ := (captureLostDue_iff s).1 h
      simp [hinput, not_reached_of_lt hlt] at hreached
    rw [exec_captureInputLost hpow, lapseCapture, if_neg hnot]
  · have hdue : captureLostDue s = true :=
      (captureLostDue_iff s).2 ⟨harmed, hphase, by rw [hinput, reached_of_eq]⟩
    rw [exec_captureInputLost hpow, lapseCapture, if_pos hdue]
    rfl
  · exact (whilePowered_of_high hpow _).trans (congrArg _ (if_pos ⟨(following_iff s).2 hmode, hhold⟩))
  · exact whilePowered_of_high hpow (fun s => { s with clock := { s.clock with lockout := none } })
  · exact (whilePowered_of_high hpow _).trans (congrArg _ (if_pos hmessage))

/-! ## Resolution reports and boom-below events (R31, R89, R93) -/

theorem exec_resolutionReport (hpow : s.pins.resetLow = false) (hmode : s.modeCtl.mode ≠ .standby)
    (h : s.mail.resolutions ≠ 0) : exec .resolutionReport s =
      .next (takeResolution { s with mail := { s.mail with resolutions := s.mail.resolutions - 1 } }) :=
  (whilePowered_of_high hpow _).trans (congrArg _ (if_pos ⟨(following_iff s).2 hmode, h⟩))

/-- Settles O30: a report in HELD, one elsewhere, and a boom-below event with a pass pending. -/
theorem resolutionEndsHeld : Obligations.ResolutionEndsHeld := by
  refine fun s hpow hmode => ⟨fun hres hheld => ?_, fun hres hnot => ?_, fun hbelow hpending => ?_⟩
  · rw [exec_resolutionReport hpow hmode hres, takeResolution_of_held, belowOrAbove_eq]
    exact hheld
  · rw [exec_resolutionReport hpow hmode hres, takeResolution_of_not_held]
    exact hnot
  · obtain ⟨p, hp⟩ := Option.isSome_iff_exists.1 hpending
    rw [exec_boomBelowEvent_of_waiting hpow hmode hbelow, takeBoomBelow]
    simp only [hp]
    rfl

/-! ## Commit reports (R141) -/

theorem exec_commitReport (hpow : s.pins.resetLow = false) (hmode : s.modeCtl.mode ≠ .standby) {tag : Nat}
    {rest : List Nat} (h : s.mail.commits = tag :: rest) :
    exec .commitReport s = .next (takeCommitReport tag { s with mail := { s.mail with commits := rest } }) := by
  have hfollow := (following_iff s).2 hmode
  rw [show exec .commitReport s = execCommitReport s from rfl, execCommitReport, whilePowered_of_high hpow]
  simp only [hfollow, h]

theorem weighedLate_eq (f : ShiftFigures) : f.weighedLate =
    { f with unweighed := if f.unweighed ≠ 65535 then f.unweighed - 1 else f.unweighed } := by
  rw [ShiftFigures.weighedLate, satSub, ite_not]
  rfl

/-- Settles O42: a report for the current cycle, for the last, and for neither. -/
theorem commitReportsMark : Obligations.CommitReportsMark := by
  refine fun tag rest s hpow hmode hcommits => ?_
  rw [exec_commitReport hpow hmode hcommits]
  refine ⟨fun htag => ?_, fun r htag hlast hnumber => ?_, fun htag hnone => ?_⟩
  · rw [takeCommitReport, if_pos htag]
    rfl
  · rw [takeCommitReport, if_neg htag]
    simp only [hlast, if_pos hnumber, lateReport]
    by_cases hopen : s.cycle.lastShift = some s.tally.shift ∧ r.flags.weighed = false
    · rw [if_pos hopen]
      simp only [tallyRequest, weighedLate_eq, hopen.1, hopen.2, true_and]
      rfl
    · rw [if_neg hopen, if_neg fun h => hopen ⟨h.1, h.2.1⟩]
      rfl
  · rw [takeCommitReport, if_neg htag]
    cases hlast : s.cycle.last with
    | none => rfl
    | some r => simp only [hnone r hlast, if_false]

end Sys2Proof.Machine
end

section
/-! PROOFS. Frames, the latch pulse and the key reads (R167 to R177). -/

namespace Sys2Proof.Machine

variable {s : State}

/-! ## Key reads (R172 to R177) -/

/-- A part with its key states and its place in the key schedule replaced. -/
def keysSet (ks : Vector KeyState 8) (mark : Option Nat) (s : State) : State :=
  { s with display := { s.display with keys := ks, keyMark := mark } }

@[simp] theorem keysSet_keysSet (ks ks' : Vector KeyState 8) (m m' : Option Nat) (s : State) :
    keysSet ks m (keysSet ks' m' s) = keysSet ks m s := rfl

theorem nextKey_keysSet (ks : Vector KeyState 8) (m : Option Nat) (s : State) :
    nextKey (keysSet ks m s) = keysSet ks m (nextKey s) := by
  have hclose {e rest} (he : s.trucks.entries = e :: rest) :
      closeHead .next (keysSet ks m s) = keysSet ks m (closeHead .next s) := by
    rw [closeHead_of_cons he, closeHead_of_cons (s := keysSet ks m s) he, transmit_line_congr (s := s)]
    all_goals rfl
  unfold nextKey
  rw [show (keysSet ks m s).trucks.entries = s.trucks.entries from rfl]
  cases he : s.trucks.entries with
  | nil => rfl
  | cons e rest =>
    dsimp only
    split
    · exact hclose he
    · split
      · rfl
      · split <;> rfl

/-- No key action looks at the key states (R177). -/
theorem keyAction_keysSet (k : Key) (ks : Vector KeyState 8) (m : Option Nat) (s : State) :
    keyAction k (keysSet ks m s) = keysSet ks m (keyAction k s) := by
  have hzero : zeroKey (keysSet ks m s) = keysSet ks m (zeroKey s) := by
    unfold zeroKey
    rw [show (keysSet ks m s).weigher = s.weigher from rfl]
    cases s.weigher.state <;> rfl
  have hitem (f : Nat → Nat) : moveItem f (keysSet ks m s) = keysSet ks m (moveItem f s) := by
    unfold moveItem
    rw [show (keysSet ks m s).display.page = s.display.page from rfl]
    split <;> rfl
  have hrunEnter : enterInRun (keysSet ks m s) = keysSet ks m (enterInRun s) := by
    unfold enterInRun
    rw [show (keysSet ks m s).display.message = s.display.message from rfl]
    split <;> rfl
  have hstep (d : Int) : captureStep d (keysSet ks m s) = keysSet ks m (captureStep d s) := by
    unfold captureStep
    rw [show (keysSet ks m s).cal = s.cal from rfl]
    split <;> rfl
  have henter : captureEnter (keysSet ks m s) = keysSet ks m (captureEnter s) := by
    unfold captureEnter
    rw [show (keysSet ks m s).cal = s.cal from rfl, show (keysSet ks m s).prod = s.prod from rfl]
    cases s.cal.capture with
    | idle | refEntry => cases s.prod.available .pitch <;> rfl
    | emptyDone | emptyArmed | loadedArmed | done | failed | check | saving => rfl
  unfold keyAction
  rw [show (keysSet ks m s).modeCtl = s.modeCtl from rfl]
  cases s.modeCtl.mode with
  | start | join | closing | standby => rfl
  | run =>
    cases k with
    | page | delete | material => rfl
    | zero => exact hzero
    | next => exact nextKey_keysSet ks m s
    | up | down => exact hitem _
    | enter => exact hrunEnter
  | service =>
    cases k with
    | page | zero | next | delete | material => rfl
    | up | down => exact hstep _
    | enter => exact henter

/-- What one key of a read brings about, given its state before (R174 to R177). -/
def keyEffect (old : KeyState) (level : Bool) (k : Key) (s : State) : State :=
  if (old.scan level).pressed = old.pressed then s
  else if (old.scan level).pressed then keyAction k s
  else keyReleased k s

theorem keyEffect_keysSet (old : KeyState) (level : Bool) (k : Key) (ks : Vector KeyState 8) (m : Option Nat)
    (s : State) : keyEffect old level k (keysSet ks m s) = keysSet ks m (keyEffect old level k s) := by
  unfold keyEffect
  split
  · rfl
  · split
    · exact keyAction_keysSet k ks m s
    · unfold keyReleased
      split <;> rfl

/-- The level of a key in a read (R173). -/
abbrev levelAt (levels : BitVec 8) (k : Key) : Bool := levels.getLsbD (keyIdx k).val

/-- The key states after the scan of some keys. -/
def scannedKeys (levels : BitVec 8) (l : List Key) (ks : Vector KeyState 8) : Vector KeyState 8 :=
  l.foldl (fun ks k => ks.set (keyIdx k) ((ks[keyIdx k]).scan (levelAt levels k))) ks

/-- What a read of some keys brings about, given the key states before. -/
def keyEffects (ks : Vector KeyState 8) (levels : BitVec 8) (l : List Key) (s : State) : State :=
  l.foldl (fun u k => keyEffect ks[keyIdx k] (levelAt levels k) k u) s

theorem keyIdx_injective {j k : Key} (h : keyIdx j = keyIdx k) : j = k := by
  cases j <;> cases k <;> simp_all [keyIdx]

theorem keyEffects_keysSet (ks' : Vector KeyState 8) (levels : BitVec 8) (ks : Vector KeyState 8) (m : Option Nat) :
    ∀ (l : List Key) (s : State), keyEffects ks' levels l (keysSet ks m s) = keysSet ks m (keyEffects ks' levels l s)
  | [], _ => rfl
  | k :: l, s => by
    rw [keyEffects, List.foldl_cons, keyEffect_keysSet]
    exact keyEffects_keysSet ks' levels ks m l _

/-- The effect of the keys that follow depends on their own states alone. -/
theorem keyEffects_congr {ks ks' : Vector KeyState 8} (levels : BitVec 8) : ∀ {l : List Key} (s : State),
    (∀ k ∈ l, ks[keyIdx k] = ks'[keyIdx k]) → keyEffects ks levels l s = keyEffects ks' levels l s
  | [], _, _ => rfl
  | k :: l, s, h => by
    rw [keyEffects, List.foldl_cons, h k List.mem_cons_self]
    exact keyEffects_congr levels _ fun j hj => h j (List.mem_cons_of_mem k hj)

/-- A read takes the keys' levels, and apart from that does what its keys bring about. -/
theorem foldl_scanKey (levels : BitVec 8) : ∀ {l : List Key} (s : State), l.Nodup →
    l.foldl (scanKey levels) s =
      keysSet (scannedKeys levels l s.display.keys) s.display.keyMark (keyEffects s.display.keys levels l s)
  | [], _, _ => rfl
  | k :: l, s, h => by
    obtain ⟨hk, hl⟩ := List.nodup_cons.1 h
    let ks := s.display.keys.set (keyIdx k) ((s.display.keys[keyIdx k]).scan (levelAt levels k))
    let u := keyEffect s.display.keys[keyIdx k] (levelAt levels k) k s
    have hfirst : scanKey levels s k = keysSet ks s.display.keyMark u :=
      keyEffect_keysSet _ _ k ks s.display.keyMark s
    have hothers : ∀ j ∈ l, ks[keyIdx j] = s.display.keys[keyIdx j] := fun j hj => by
      have hne : (keyIdx k).val ≠ (keyIdx j).val := fun h => hk (keyIdx_injective (Fin.ext h) ▸ hj)
      exact Vector.getElem_set_ne _ _ hne
    rw [List.foldl_cons, hfirst, foldl_scanKey levels _ hl, keyEffects_keysSet]
    rw [show (keysSet ks s.display.keyMark u).display.keys = ks from rfl, keyEffects_congr levels u hothers]
    rfl

theorem scannedKeys_allKeys (levels : BitVec 8) (ks : Vector KeyState 8) :
    scannedKeys levels allKeys ks = Vector.ofFn (fun i : Fin 8 => (ks[i]).scan (levels.getLsbD i.val)) := by
  refine Vector.ext fun i hi => ?_
  interval_cases i <;> simp [scannedKeys, allKeys, keyIdx, levelAt]

/-- The key states after a whole read (R173, R174). -/
abbrev allScanned (levels : BitVec 8) (s : State) : Vector KeyState 8 :=
  Vector.ofFn (fun i : Fin 8 => (s.display.keys[i]).scan (levels.getLsbD i.val))

/-- A part whose read no longer waits. -/
abbrev readDone (s : State) : State := { s with display := { s.display with readWaiting := false } }

theorem readKeys_eq (levels : BitVec 8) (s : State) :
    readKeys levels s = keysSet (allScanned levels s) s.display.keyMark
      (keyEffects s.display.keys levels allKeys (readDone s)) := by
  rw [readKeys, foldl_scanKey levels (l := allKeys) _ (by decide), scannedKeys_allKeys]

/-- A part with its place in the key schedule replaced. -/
def keyMarkSet (mark : Option Nat) (s : State) : State := { s with display := { s.display with keyMark := mark } }

/-- The place in the key schedule does not matter to a read. -/
theorem readKeys_keyMarkSet (levels : BitVec 8) (m : Option Nat) (s : State) :
    readKeys levels (keyMarkSet m s) = keyMarkSet m (readKeys levels s) := by
  rw [readKeys_eq, readKeys_eq]
  change keysSet (allScanned levels s) m
      (keyEffects s.display.keys levels allKeys (keysSet s.display.keys m (readDone s))) =
    keysSet (allScanned levels s) m (keyEffects s.display.keys levels allKeys (readDone s))
  rw [keyEffects_keysSet]
  rfl

/-- A read leaves its place in the key schedule. -/
theorem readKeys_of_mark (levels : BitVec 8) (m : Option Nat) (s : State) :
    keyMarkSet s.display.keyMark (readKeys levels (keyMarkSet m s)) = readKeys levels s := by
  rw [← readKeys_keyMarkSet]
  rfl

/-! ## Reads in which no key acts (R174, R176) -/

/-- DELETE is released in a read. -/
abbrev deleteReleased (levels : BitVec 8) (s : State) : Prop :=
  (s.display.key .delete).pressed = true ∧ ((s.display.key .delete).scan (levelAt levels .delete)).pressed = false

/-- A key acts in RUN and SERVICE only, where it becomes PRESSED; a DELETE that is released stops its hold. -/
theorem keyEffect_of_idle {old : KeyState} {level : Bool} {k : Key}
    (h : (s.modeCtl.mode ≠ .run ∧ s.modeCtl.mode ≠ .service) ∨ (old.scan level).pressed = old.pressed) :
    keyEffect old level k s =
      if k = .delete ∧ old.pressed = true ∧ (old.scan level).pressed = false then stopHold s else s := by
  unfold keyEffect
  split
  · next heq =>
    rw [if_neg]
    rintro ⟨-, hold, hnew⟩
    rw [heq, hold] at hnew
    cases hnew
  · next hne =>
    have hmode := h.resolve_right hne
    split
    · next hnew =>
      rw [if_neg fun h => by simp [hnew] at h, keyAction]
      cases hm : s.modeCtl.mode with
      | run => exact absurd hm hmode.1
      | service => exact absurd hm hmode.2
      | start | join | closing | standby => rfl
    · next hnew =>
      have hold : old.pressed = true := by
        cases ho : old.pressed with
        | true => rfl
        | false => simp [ho] at hne; exact absurd hne hnew
      unfold keyReleased
      simp [hold, hnew]

/-- No key of a read can act. -/
def KeysIdle (levels : BitVec 8) (s : State) : Prop :=
  (s.modeCtl.mode ≠ .run ∧ s.modeCtl.mode ≠ .service) ∨
    ∀ k, ((s.display.key k).scan (levelAt levels k)).pressed = (s.display.key k).pressed

theorem keyEffects_of_idle (levels : BitVec 8) {ks : Vector KeyState 8} : ∀ {l : List Key} (s : State), l.Nodup →
    ((s.modeCtl.mode ≠ .run ∧ s.modeCtl.mode ≠ .service) ∨
      ∀ k, ((ks[keyIdx k]).scan (levelAt levels k)).pressed = (ks[keyIdx k]).pressed) →
    keyEffects ks levels l s = if .delete ∈ l ∧ (ks[keyIdx .delete]).pressed = true ∧
      ((ks[keyIdx .delete]).scan (levelAt levels .delete)).pressed = false then stopHold s else s
  | [], s, _, _ => by simp [keyEffects]
  | k :: l, s, hnodup, h => by
    obtain ⟨hk, hl⟩ := List.nodup_cons.1 hnodup
    rw [keyEffects, List.foldl_cons, keyEffect_of_idle (h.imp_right fun h => h k)]
    change keyEffects ks levels l _ = _
    by_cases hdelete : k = .delete
    · subst hdelete
      by_cases hrel : (ks[keyIdx .delete]).pressed = true ∧
        ((ks[keyIdx .delete]).scan (levelAt levels .delete)).pressed = false
      · rw [if_pos ⟨rfl, hrel⟩, keyEffects_of_idle levels (stopHold s) hl h, if_neg fun h => hk h.1,
          if_pos ⟨List.mem_cons_self, hrel⟩]
      · rw [if_neg fun h => hrel h.2, keyEffects_of_idle levels s hl h, if_neg fun h => hk h.1,
          if_neg fun h => hrel h.2]
    · rw [if_neg fun h => hdelete h.1, keyEffects_of_idle levels s hl h]
      simp [Ne.symm hdelete]

/-- A read in which no key can act takes the levels, and stops a hold whose DELETE is released. -/
theorem readKeys_of_idle {levels : BitVec 8} (h : KeysIdle levels s) :
    readKeys levels s = { s with display := { s.display with
      readWaiting := false, keys := allScanned levels s,
      deleteHold := if deleteReleased levels s then none else s.display.deleteHold } } := by
  rw [readKeys_eq, keyEffects_of_idle levels (l := allKeys) (readDone s) (by decide) h]
  by_cases hrel : deleteReleased levels s
  · rw [if_pos ⟨by decide, hrel⟩, if_pos hrel]
    rfl
  · rw [if_neg fun h => hrel h.2, if_neg hrel]
    rfl

/-! ## The commands (R168, R169, R172) -/

theorem exec_keyRead (hpow : s.pins.resetLow = false) (hread : keysAreRead s = true) (levels : BitVec 8) :
    exec (.keyRead levels) s = .next (keyMarkPasses levels s) :=
  (whilePowered_of_high hpow _).trans (congrArg _ (if_pos hread))

theorem frameDue_iff (s : State) : frameDue s = true ↔
    s.modeCtl.mode ≠ .standby ∧ s.display.port = .free ∧
      ∀ t, s.display.sinceFrame = some t → 100 ≤ t ∨ (s.display.stale = true ∧ 20 ≤ t) := by
  unfold frameDue Display.due
  cases s.display.sinceFrame <;> simp [and_assoc]

theorem blankDueNow_iff (s : State) : blankDueNow s = true ↔
    s.modeCtl.mode = .standby ∧ s.display.blankDue = true ∧ s.display.port = .free ∧
      ∀ t, s.display.sinceFrame = some t → 20 ≤ t := by
  unfold blankDueNow
  cases s.display.sinceFrame <;> simp [and_assoc]

/-- A mark of the key schedule taken: the levels, and its place. -/
abbrev marked (levels : BitVec 8) (s : State) : State :=
  { s with pins := { s.pins with keyLevels := levels }, display := { s.display with keyMark := some 0 } }

theorem keyMarkPasses_of_mode (levels : BitVec 8) (hmode : s.modeCtl.mode ≠ .standby) :
    keyMarkPasses levels s = takeKeyRead levels (dueFrameFirst (marked levels s)) :=
  if_neg fun h => hmode ((blankDueNow_iff s).1 h).1

theorem exec_keyRead_of_free (hpow : s.pins.resetLow = false) (hread : keysAreRead s = true)
    (hmode : s.modeCtl.mode ≠ .standby) (hport : s.display.port = .free) (hdue : frameDue s = false)
    (levels : BitVec 8) : exec (.keyRead levels) s = .next (readKeys levels (marked levels s)) := by
  have hnot : ¬frameDue (marked levels s) = true := fun h => by
    rw [show frameDue (marked levels s) = frameDue s from rfl, hdue] at h
    cases h
  rw [exec_keyRead hpow hread, keyMarkPasses_of_mode levels hmode, dueFrameFirst, if_neg hnot, takeKeyRead, if_pos hport]

/-- Two equal scans in a row are counted as two at least (R174). -/
theorem run_scan_scan (x : KeyState) (level : Bool) : 2 ≤ ((x.scan level).scan level).run := by
  have hfirst : 1 ≤ (x.scan level).run := by
    unfold KeyState.scan
    dsimp only
    split <;> omega
  have hsecond : ((x.scan level).scan level).run = min 3 ((x.scan level).run + 1) := if_pos rfl
  omega

/-- Settles O49: the third equal scan, and a read with the port FREE, behind a frame due, and behind one in flight. -/
theorem keysAreDebounced : Obligations.KeysAreDebounced := by
  refine ⟨fun x level => ?_, fun levels s hpow hsince hmode => ?_⟩
  · refine ⟨?_, fun h => ⟨?_, ?_⟩⟩
    · rw [scan_pressed, if_pos ⟨rfl, run_scan_scan x level⟩]
    · rw [scan_pressed, if_neg fun h' => h h'.1]
    · rw [scan_pressed, scan_pressed, if_neg (fun h' => h h'.1 : ¬(x.lastScan = some level ∧ 2 ≤ x.run)), if_neg]
      simp [KeyState.scan, h]
  · have hstandby : s.modeCtl.mode ≠ .standby := by obtain h | h | h := hmode <;> simp [h]
    have hread : keysAreRead s = true := by simp [keysAreRead, hsince, hstandby]
    have hidle : KeysIdle levels (marked levels s) :=
      .inl (by obtain h | h | h := hmode <;> exact ⟨by simp [h], by simp [h]⟩)
    rw [exec_keyRead hpow hread, keyMarkPasses_of_mode levels hstandby]
    refine ⟨fun hfree hdue => ?_, fun hdue => ?_, fun hbusy => ?_⟩
    · rw [← keyMarkPasses_of_mode levels hstandby, ← exec_keyRead hpow hread,
        exec_keyRead_of_free hpow hread hstandby hfree hdue, readKeys_of_idle hidle]
      rfl
    · have hdue' : frameDue (marked levels s) = true := hdue
      rw [dueFrameFirst, if_pos hdue', takeKeyRead, if_neg (by simp [beginFrame])]
      rfl
    · have hnot : ¬frameDue (marked levels s) = true := fun h => hbusy ((frameDue_iff _).1 h).2.1
      rw [dueFrameFirst, if_neg hnot, takeKeyRead, if_neg hbusy]

/-! ## Frames begun and latched, and the blank frame (R167 to R169, R172) -/

theorem exec_frameBegin (hpow : s.pins.resetLow = false) :
    exec .frameBegin s = .next (if frameDue s then beginFrame s else s) :=
  whilePowered_of_high hpow (fun s => if frameDue s then beginFrame s else s)

theorem exec_frameLatch (hpow : s.pins.resetLow = false) (hport : s.display.port = .shifting) :
    exec .frameLatch s = .next (waitingRead (latchFrame s)) :=
  (whilePowered_of_high hpow _).trans (congrArg _ (if_pos hport))

theorem exec_blankFrame (hpow : s.pins.resetLow = false) :
    exec .blankFrame s = .next (if blankDueNow s then sendBlank s else s) :=
  whilePowered_of_high hpow (fun s => if blankDueNow s then sendBlank s else s)

theorem waitingRead_of_waiting (hwaits : s.display.readWaiting = true) (hread : keysAreRead s = true) :
    waitingRead s = readKeys s.pins.keyLevels s := by simp [waitingRead, hwaits, hread]

theorem keysAreRead_iff (s : State) : keysAreRead s = true ↔
    s.display.sinceFrame.isSome = true ∧ (s.modeCtl.mode = .standby → s.display.blankDue = true) := by
  simp [keysAreRead, imp_iff_not_or]

/-- Settles O47: a frame begun, its latch with the read that waits, and the blank frame. -/
theorem framesBeginAndLatch : Obligations.FramesBeginAndLatch := by
  intro s hpow d
  refine ⟨fun hport hmode hdue => ?_, fun hnot => ?_, ?_⟩
  · rw [exec_frameBegin hpow, if_pos ((frameDue_iff s).2 ⟨hmode, hport, hdue⟩)]
    rfl
  · rw [exec_frameBegin hpow, if_neg fun h => ?_]
    obtain ⟨hmode, hport, hdue⟩ := (frameDue_iff s).1 h
    obtain h | h | ⟨t, ht, hlt, hquiet⟩ := hnot
    · exact h hport
    · exact hmode h
    · obtain h | ⟨hstale, h⟩ := hdue t ht
      · exact absurd h (not_le.2 hlt)
      · obtain h' | h' := hquiet
        · exact absurd (hstale.symm.trans h') (by decide)
        · exact absurd h (not_le.2 h')
  · intro latched scanned
    refine ⟨fun hport hwaits => ?_, fun hport hwaits hsince hidle => ?_, fun hport hwaits hsince hmode hdue => ?_,
      fun hmode hblank hport hspaced => ?_, fun hnot => ?_⟩
    · rw [exec_frameLatch hpow hport, waitingRead, if_neg]
      · rfl
      · simp [show (latchFrame s).display.readWaiting = false from hwaits]
    · have hread : keysAreRead latched = true := (keysAreRead_iff latched).2 ⟨hsince, fun h => by
        obtain ⟨-, -, hblank⟩ | ⟨hmode, -⟩ := hidle
        · exact hblank h
        · obtain hm | hm := hmode <;> exact absurd (h.symm.trans hm) (by decide)⟩
      have hkeys : KeysIdle s.pins.keyLevels latched :=
        hidle.imp (fun h => ⟨h.1, h.2.1⟩) fun h k => h.2 (keyIdx k)
      rw [exec_frameLatch hpow hport, waitingRead_of_waiting (s := latchFrame s) hwaits hread]
      exact congrArg _ (readKeys_of_idle hkeys)
    · have hstandby : s.modeCtl.mode ≠ .standby := by obtain h | h := hmode <;> simp [h]
      have hread : keysAreRead latched = true := (keysAreRead_iff latched).2 ⟨hsince, fun h => absurd h hstandby⟩
      have hkeyRead := exec_keyRead_of_free (s := latched) hpow hread hstandby rfl hdue s.pins.keyLevels
      rw [show marked s.pins.keyLevels latched = keyMarkSet (some 0) latched from rfl] at hkeyRead
      have hmark : keyMarkSet d.keyMark (readKeys s.pins.keyLevels (keyMarkSet (some 0) latched)) =
          readKeys s.pins.keyLevels latched := readKeys_of_mark s.pins.keyLevels (some 0) latched
      refine ⟨_, hkeyRead, ?_⟩
      rw [exec_frameLatch hpow hport, waitingRead_of_waiting (s := latchFrame s) hwaits hread]
      exact congrArg Host.Outcome.next hmark.symm
    · rw [exec_blankFrame hpow, if_pos ((blankDueNow_iff s).2 ⟨hmode, hblank, hport, hspaced⟩)]
      rfl
    · rw [exec_blankFrame hpow, if_neg fun h => ?_]
      obtain ⟨hmode, hblank, hport, hspaced⟩ := (blankDueNow_iff s).1 h
      obtain h | h | h | ⟨t, ht, hlt⟩ := hnot
      · exact h hmode
      · exact absurd (hblank.symm.trans h) (by decide)
      · exact h hport
      · exact absurd (hspaced t ht) (not_le.2 hlt)

/-! ## Key actions (R175, R177) -/

theorem keyEffects_of_unchanged (levels : BitVec 8) {ks : Vector KeyState 8} : ∀ {l : List Key} (s : State),
    (∀ k ∈ l, ((ks[keyIdx k]).scan (levelAt levels k)).pressed = (ks[keyIdx k]).pressed) →
      keyEffects ks levels l s = s
  | [], _, _ => rfl
  | k :: l, s, h => by
    rw [keyEffects, List.foldl_cons, keyEffect, if_pos (h k List.mem_cons_self)]
    exact keyEffects_of_unchanged levels s fun j hj => h j (List.mem_cons_of_mem k hj)

/-- Where one key becomes PRESSED and no other changes, the read brings about its action. -/
theorem keyEffects_of_press (levels : BitVec 8) {ks : Vector KeyState 8} {k : Key} : ∀ {l : List Key} (s : State),
    l.Nodup → k ∈ l → (ks[keyIdx k]).pressed = false → ((ks[keyIdx k]).scan (levelAt levels k)).pressed = true →
    (∀ j, j ≠ k → ((ks[keyIdx j]).scan (levelAt levels j)).pressed = (ks[keyIdx j]).pressed) →
      keyEffects ks levels l s = keyAction k s
  | [], _, _, hk, _, _, _ => absurd hk (List.not_mem_nil)
  | j :: l, s, hnodup, hk, hold, hnew, hothers => by
    obtain ⟨hj, hl⟩ := List.nodup_cons.1 hnodup
    rw [keyEffects, List.foldl_cons]
    by_cases h : j = k
    · subst h
      rw [keyEffect, if_neg (by rw [hold, hnew]; decide), if_pos hnew]
      exact keyEffects_of_unchanged levels _ fun i hi => hothers i fun h => hj (h ▸ hi)
    · rw [keyEffect, if_pos (hothers j h)]
      exact keyEffects_of_press levels s hl ((List.mem_cons.1 hk).resolve_left (Ne.symm h)) hold hnew hothers

/-- A part whose keys have been read with the port FREE. -/
abbrev keysRead (levels : BitVec 8) (s : State) : State :=
  { s with
    pins := { s.pins with keyLevels := levels },
    display := { s.display with keyMark := some 0, readWaiting := false, keys := allScanned levels s } }

theorem exec_keyRead_of_press {levels : BitVec 8} {k : Key} (hpow : s.pins.resetLow = false)
    (hsince : s.display.sinceFrame.isSome = true) (hmode : s.modeCtl.mode ≠ .standby) (hport : s.display.port = .free)
    (hdue : frameDue s = false) (hold : (s.display.key k).pressed = false)
    (hnew : ((s.display.key k).scan (levelAt levels k)).pressed = true)
    (hothers : ∀ j, j ≠ k → ((s.display.key j).scan (levelAt levels j)).pressed = (s.display.key j).pressed) :
    exec (.keyRead levels) s = .next (keyAction k (keysRead levels s)) := by
  have hread : keysAreRead s = true := (keysAreRead_iff s).2 ⟨hsince, fun h => absurd h hmode⟩
  have hall : k ∈ allKeys := by cases k <;> decide
  rw [exec_keyRead_of_free hpow hread hmode hport hdue, readKeys_eq, keyEffects_of_press levels (k := k) _ (by decide) hall hold hnew hothers, ← keyAction_keysSet]
  rfl

theorem keyAction_of_run (k : Key) (h : s.modeCtl.mode = .run) : keyAction k s = runKey k s := by rw [keyAction, h]

theorem keyAction_of_service (k : Key) (h : s.modeCtl.mode = .service) : keyAction k s = serviceKey k s := by
  rw [keyAction, h]

theorem moveItem_of_status (f : Nat → Nat) (h : s.display.page = .status) : moveItem f s =
    { s with display := { s.display with stale := true, statusItem := f s.display.statusItem } } := if_pos h

theorem moveItem_of_other (f : Nat → Nat) (h : s.display.page ≠ .status) : moveItem f s = s := if_neg h

theorem nextPage_eq (s : State) : nextPage s = { s with display := { s.display with
    stale := true,
    page := match s.display.page with
      | .load => .bucket | .bucket => .shift | .shift => .status | .status => .load } } := by
  unfold nextPage Page.next
  cases s.display.page <;> rfl

theorem materialKey_eq (s : State) :
    let m := match s.pass.material with
      | .m1 => Material.m2 | .m2 => .m3 | .m3 => .m4 | .m4 => .m1
    materialKey s = { s with
      pass := { s.pass with
        material := m,
        pending := s.pass.pending.map (fun p =>
          { p with material := m, fill := passFill s.cal.active m p.weight }) },
      display := { s.display with
        message := some (.material m (s.cal.active.rho m)), messageTimer := some 3000, stale := true } } := by
  unfold materialKey Material.next
  cases s.pass.material <;> rfl

theorem zeroKey_of_other (hnoCal : s.weigher.state ≠ .noCal) (hoff : s.weigher.state ≠ .off) :
    zeroKey s = placeMessage (if s.weigher.zeroArmed then .zeroCancelled else .zeroArmed)
      { s with weigher := { s.weigher with zeroArmed := !s.weigher.zeroArmed } } := by
  unfold zeroKey
  cases h : s.weigher.state with
  | noCal => exact absurd h hnoCal
  | off => exact absurd h hoff
  | below | inWindow | above | held => rfl

theorem captureStep_of_entry (d : Int) (h : s.cal.capture = .refEntry) : captureStep d s =
    { s with
      cal := { s.cal with refEntry := clamp 1000 25000 (s.cal.refEntry + d) },
      display := { s.display with stale := true } } := if_pos h

theorem captureStep_of_other (d : Int) (h : s.cal.capture ≠ .refEntry) : captureStep d s = s := if_neg h

theorem keyAction_of_either {k : Key} (hmode : s.modeCtl.mode = .run ∨ s.modeCtl.mode = .service)
    (h : runKey k s = serviceKey k s) : keyAction k s = runKey k s :=
  hmode.elim (keyAction_of_run k) fun hs => (keyAction_of_service k hs).trans h.symm

theorem nextKey_of_empty (h : s.trucks.entries = []) : nextKey s = placeMessage .noTruck s := by
  rw [nextKey, h]

/-- NEXT on a list with a head (R111). -/
theorem nextKey_of_cons {e : TruckEntry} {rest : List TruckEntry} (h : s.trucks.entries = e :: rest) : nextKey s =
    if e.passes ≠ [] then closeHead .next s
    else if e.identity.isNone then placeMessage .truckRemoved (setEntries rest s)
    else if rest = [] then placeMessage .noPasses s
    else placeMessage .truckToEnd (setEntries (rest ++ [e]) s) := by
  rw [nextKey, h]

/-- ENTER in SERVICE, by the capture state (R45, R52 to R55). -/
theorem captureEnter_clauses (s : State) :
    let shown := fun (m : Message) => { s.display with message := some m, messageTimer := some 3000, stale := true }
    let quiet := { s.display with stale := true }
    let cleared := { s.cal with bins := emptyBins, phase := .awaitBelow, thMax := none, inputTimer := none }
    (s.cal.capture = .idle ∨ s.cal.capture = .refEntry → s.prod.available .pitch = false →
      captureEnter s = { s with display := shown .calRefusedNoPitch }) ∧
    (s.cal.capture = .idle → s.prod.available .pitch = true →
      captureEnter s = { s with cal := { cleared with capture := .emptyArmed }, display := quiet }) ∧
    (s.cal.capture = .emptyDone →
      captureEnter s = { s with cal := { s.cal with capture := .refEntry }, display := quiet }) ∧
    (s.cal.capture = .refEntry → s.prod.available .pitch = true →
      captureEnter s = { s with
        cal := { cleared with capture := .loadedArmed, candRef := s.cal.refEntry }, display := quiet }) ∧
    (s.cal.capture = .emptyArmed ∨ s.cal.capture = .loadedArmed →
      captureEnter s = { s with
        cal := { cleared with capture := .idle, candEmpty := none, candLoaded := none },
        display := shown .calCancelled }) ∧
    (s.cal.capture = .check ∨ s.cal.capture = .saving → captureEnter s = s) ∧
    (s.cal.capture = .done ∨ (∃ reason, s.cal.capture = .failed reason) →
      captureEnter s = { s with cal := { s.cal with capture := .idle }, display := quiet }) := by
  refine ⟨fun h hp => ?_, fun h hp => ?_, fun h => ?_, fun h hp => ?_, fun h => ?_, fun h => ?_, fun h => ?_⟩
  · obtain h | h := h <;> (rw [captureEnter, h]; simp only [hp]; rfl)
  · rw [captureEnter, h]
    simp only [hp]
    rfl
  · rw [captureEnter, h]
    rfl
  · rw [captureEnter, h]
    simp only [hp]
    rfl
  · obtain h | h := h <;> (rw [captureEnter, h]; rfl)
  · obtain h | h := h <;> rw [captureEnter, h]
  · obtain h | ⟨reason, h⟩ := h <;> (rw [captureEnter, h]; rfl)

/-- Settles O50: each key alone, in RUN and in SERVICE, is its action on the part whose keys have been read. -/
theorem keysAct : Obligations.KeysAct := by
  intro levels k s hpow hsince hport hdue hold hnew hothers u shown read cleared
  have hact (hmode : s.modeCtl.mode ≠ .standby) : read = .next (keyAction k u) :=
    exec_keyRead_of_press hpow hsince hmode hport hdue hold hnew hothers
  clear_value read
  clear hold hnew hothers
  refine ⟨fun hmode => ?_, fun hmode => ?_, fun hmode => ?_⟩
  · rw [hact (by obtain h | h := hmode <;> simp [h])]
    refine ⟨?_, ?_⟩
    · rintro rfl
      exact congrArg _ ((keyAction_of_either (s := u) hmode rfl).trans (nextPage_eq u))
    · rintro rfl
      exact congrArg _ ((keyAction_of_either (s := u) hmode rfl).trans (materialKey_eq u))
  · rw [hact (by simp [hmode]), keyAction_of_run (s := u) k hmode]
    refine ⟨?_, ?_, ?_, ?_, ?_, ?_, ?_, ?_, ?_, ?_⟩
    · rintro rfl h
      rw [runKey, zeroKey, show u.weigher.state = .noCal from h]
      rfl
    · rintro rfl hnoCal hoff
      exact congrArg _ (zeroKey_of_other (s := u) hnoCal hoff)
    · rintro rfl
      rfl
    · rintro (rfl | rfl) h <;> exact congrArg _ (moveItem_of_other (s := u) _ h)
    · rintro rfl h
      exact congrArg _ (moveItem_of_status (s := u) _ h)
    · rintro rfl h
      exact congrArg _ (moveItem_of_status (s := u) _ h)
    · rintro rfl h
      exact congrArg _ (if_neg (by simp [u, h]))
    · rintro rfl h
      exact congrArg _ (if_pos h)
    · rintro rfl h
      exact congrArg _ (nextKey_of_empty (s := u) h)
    · rintro e rest rfl he
      rw [runKey, nextKey_of_cons (s := u) he]
      refine ⟨fun hp hid => ?_, fun hp hid hrest => ?_, fun hp hid hrest => ?_, fun hp => ?_⟩
      · rw [if_neg (not_not.2 hp), if_pos (by rw [hid]; rfl)]
        rfl
      · rw [if_neg (not_not.2 hp), if_neg (by simp [Option.isSome_iff_ne_none.1 hid]), if_pos hrest]
        rfl
      · rw [if_neg (not_not.2 hp), if_neg (by simp [Option.isSome_iff_ne_none.1 hid]), if_neg hrest]
        rfl
      · have hline : (transmit .truckState (truckStateData u.tally.shift e (.closed .next) .none rest.length) u).line =
            (transmit .truckState (truckStateData s.tally.shift e (.closed .next) .none rest.length) s).line :=
          transmit_line_congr _ _ rfl rfl
        rw [if_pos hp, closeHead_of_cons (s := u) he, hline]
        rfl
  · rw [hact (by simp [hmode]), keyAction_of_service (s := u) k hmode]
    refine ⟨?_, ?_, ?_, ?_⟩
    · rintro (rfl | rfl | rfl) <;> rfl
    · rintro (rfl | rfl) h <;> exact congrArg _ (captureStep_of_other (s := u) _ h)
    · rintro (rfl | rfl) h <;> exact congrArg _ (captureStep_of_entry (s := u) _ h)
    · rintro rfl
      obtain ⟨h1, h2, h3, h4, h5, h6, h7⟩ := captureEnter_clauses u
      exact ⟨fun h hp => congrArg _ (h1 h hp), fun h hp => congrArg _ (h2 h hp), fun h => congrArg _ (h3 h),
        fun h hp => congrArg _ (h4 h hp), fun h => congrArg _ (h5 h), fun h => congrArg _ (h6 h),
        fun h => congrArg _ (h7 h)⟩

end Sys2Proof.Machine
end

section
/-! PROOFS. The calendar, its seconds, and the TIME telegrams (R146 to R156, R161). -/

namespace Sys2Proof.Machine

variable {s t : State}

/-! ## The calendar in seconds (R146, R147) -/

/-- Days from 2000-01-01 (R219). -/
def Calendar.days (c : Calendar) : Nat := daysBeforeYear c.year + daysInMonths c.year (c.month - 1) + (c.day - 1)

theorem toSeconds_eq (c : Calendar) :
    c.toSeconds = c.days * 86400 + c.hour * 3600 + c.minute * 60 + c.second := rfl

theorem isValid_iff (c : Calendar) : c.isValid = true ↔
    ((2000 ≤ c.year ∧ c.year ≤ 2099) ∧ (1 ≤ c.month ∧ c.month ≤ 12) ∧ 1 ≤ c.day ∧ c.day ≤ monthLength c.year c.month) ∧
      c.hour ≤ 23 ∧ c.minute ≤ 59 ∧ c.second ≤ 59 := by
  simp [Calendar.isValid, and_assoc]

/-- The year's months add up to the days up to the next year (R147). -/
theorem daysBeforeYear_succ {year : Nat} (h : 2000 ≤ year) :
    daysBeforeYear (year + 1) = daysBeforeYear year + daysInMonths year 12 := by
  have hmonths : daysInMonths year 12 = if year % 4 = 0 then 366 else 365 := by
    simp only [daysInMonths, monthLength, isLeap, beq_iff_eq]
    split <;> rfl
  rw [hmonths]
  unfold daysBeforeYear
  split <;> omega

theorem one_le_monthLength {year month : Nat} (h : 1 ≤ month) (h' : month ≤ 12) : 1 ≤ monthLength year month := by
  interval_cases month <;> simp [monthLength]
  split <;> omega

/-- A date of the calendar. -/
def Calendar.Dated (c : Calendar) : Prop :=
  (2000 ≤ c.year ∧ c.year ≤ 2099) ∧ (1 ≤ c.month ∧ c.month ≤ 12) ∧ 1 ≤ c.day ∧ c.day ≤ monthLength c.year c.month

/-- The last day, December 31, 2099. -/
def Calendar.LastDay (c : Calendar) : Prop := c.year = 2099 ∧ c.month = 12 ∧ c.day = 31

/-- The day after a date is a date; it counts one day more, and the last day leads to day 0 (R147). -/
theorem nextDay_days {c : Calendar} (h : c.Dated) :
    c.nextDay.Dated ∧ (¬c.LastDay → c.nextDay.days = c.days + 1) ∧ (c.LastDay → c.nextDay.days = 0) := by
  obtain ⟨⟨hy, hy'⟩, ⟨hm, hm'⟩, hd, hd'⟩ := h
  unfold Calendar.nextDay
  by_cases h1 : c.day < monthLength c.year c.month
  · rw [if_pos h1]
    refine ⟨⟨⟨hy, hy'⟩, ⟨hm, hm'⟩, Nat.succ_pos _, h1⟩, fun _ => ?_, fun hlast => ?_⟩
    · simp only [Calendar.days]
      omega
    · obtain ⟨-, hdec, hday⟩ := hlast
      simp [hdec, hday, monthLength] at h1
  · have hday : c.day = monthLength c.year c.month := by omega
    rw [if_neg h1]
    by_cases h2 : c.month < 12
    · rw [if_pos h2]
      refine ⟨⟨⟨hy, hy'⟩, ⟨Nat.succ_pos _, h2⟩, le_refl 1, one_le_monthLength (Nat.succ_pos _) h2⟩, fun _ => ?_,
        fun hlast => absurd hlast.2.1 (Nat.ne_of_lt h2)⟩
      obtain ⟨n, hn⟩ : ∃ n, c.month = n + 1 := ⟨c.month - 1, by omega⟩
      simp only [Calendar.days, hn, Nat.add_sub_cancel, daysInMonths] at hday ⊢
      omega
    · have hdec : c.month = 12 := by omega
      rw [if_neg h2]
      have hlen : monthLength c.year 12 = 31 := rfl
      rw [hdec, hlen] at hday
      by_cases h3 : c.year < 2099
      · rw [if_pos h3]
        refine ⟨?_, fun _ => ?_, fun hlast => absurd hlast.1 (Nat.ne_of_lt h3)⟩
        · simp only [Calendar.Dated, monthLength]
          omega
        · have hyear := daysBeforeYear_succ hy
          rw [show daysInMonths c.year 12 = daysInMonths c.year 11 + 31 from rfl] at hyear
          change daysBeforeYear (c.year + 1) + 0 + 0 =
            daysBeforeYear c.year + daysInMonths c.year (c.month - 1) + (c.day - 1) + 1
          rw [hdec, hday, hyear]
          simp [Nat.add_assoc]
      · have hlastYear : c.year = 2099 := by omega
        rw [if_neg h3]
        refine ⟨?_, fun hnot => absurd ⟨hlastYear, hdec, hday⟩ hnot, fun _ => ?_⟩
        · simp only [Calendar.Dated, monthLength]
          omega
        · simp [Calendar.days, daysBeforeYear, daysInMonths]

theorem daysInMonths_mono (year : Nat) : Monotone (daysInMonths year) :=
  monotone_nat_of_le_succ fun n => Nat.le_add_right _ (monthLength year (n + 1))

/-- No date counts more days than the last one (R146). -/
theorem days_le_last {c : Calendar} (h : c.Dated) : c.days ≤ 36524 ∧ (c.LastDay ↔ c.days = 36524) := by
  obtain ⟨⟨hy, hy'⟩, ⟨hm, hm'⟩, hd, hd'⟩ := h
  obtain ⟨n, hn⟩ : ∃ n, c.month = n + 1 := ⟨c.month - 1, by omega⟩
  have hmonth : daysInMonths c.year c.month = daysInMonths c.year (c.month - 1) + monthLength c.year c.month := by
    rw [hn]
    rfl
  have hyear := daysBeforeYear_succ hy
  have hspan : daysBeforeYear (c.year + 1) ≤ 36525 ∧ (c.year = 2099 ↔ daysBeforeYear (c.year + 1) = 36525) := by
    unfold daysBeforeYear
    omega
  have hmono := daysInMonths_mono c.year hm'
  refine ⟨by simp only [Calendar.days]; omega, ?_, fun hdays => ?_⟩
  · rintro ⟨hlast, hdec, hday⟩
    rw [hdec, show monthLength c.year 12 = 31 from rfl] at hmonth
    simp only [Calendar.days, hdec, hday]
    omega
  · simp only [Calendar.days] at hdays
    have hdec : c.month = 12 := by
      by_contra hne
      have hnext := daysInMonths_mono c.year (show c.month + 1 ≤ 12 by omega)
      have hstep : daysInMonths c.year (c.month + 1) = daysInMonths c.year c.month + monthLength c.year (c.month + 1) :=
        rfl
      have hlen := one_le_monthLength (year := c.year) (show 1 ≤ c.month + 1 by omega) (by omega)
      omega
    rw [hdec, show monthLength c.year 12 = 31 from rfl] at hmonth hd'
    rw [hdec] at hdays
    exact ⟨by omega, hdec, by omega⟩

theorem nextDay_time (c : Calendar) :
    c.nextDay.hour = c.hour ∧ c.nextDay.minute = c.minute ∧ c.nextDay.second = c.second := by
  unfold Calendar.nextDay
  repeat' split
  all_goals exact ⟨rfl, rfl, rfl⟩

theorem isLast_iff (c : Calendar) : c.isLast = true ↔ c.LastDay ∧ c.hour = 23 ∧ c.minute = 59 ∧ c.second = 59 := by
  simp [Calendar.isLast, Calendar.LastDay, and_assoc]

/-- One second after a valid reading is a valid reading, one second later in the hundred years (R146, R147). -/
theorem nextSecond_valid {c : Calendar} (h : c.isValid = true) :
    c.nextSecond.isValid = true ∧ c.nextSecond.toSeconds = (c.toSeconds + 1) % 3155760000 := by
  obtain ⟨hdated, hh, hmin, hsec⟩ := (isValid_iff c).1 h
  obtain ⟨hbound, -⟩ := days_le_last (c := c) hdated
  rw [isValid_iff]
  unfold Calendar.nextSecond
  by_cases h1 : c.second < 59
  · rw [if_pos h1]
    refine ⟨⟨hdated, hh, hmin, h1⟩, ?_⟩
    rw [toSeconds_eq c, toSeconds_eq, show Calendar.days { c with second := c.second + 1 } = c.days from rfl]
    dsimp only
    omega
  · rw [if_neg h1]
    by_cases h2 : c.minute < 59
    · rw [if_pos h2]
      refine ⟨⟨hdated, hh, h2, Nat.zero_le _⟩, ?_⟩
      rw [toSeconds_eq c, toSeconds_eq, show Calendar.days { c with second := 0, minute := c.minute + 1 } = c.days from rfl]
      dsimp only
      omega
    · rw [if_neg h2]
      by_cases h3 : c.hour < 23
      · rw [if_pos h3]
        refine ⟨⟨hdated, h3, Nat.zero_le _, Nat.zero_le _⟩, ?_⟩
        rw [toSeconds_eq c, toSeconds_eq,
          show Calendar.days { c with second := 0, minute := 0, hour := c.hour + 1 } = c.days from rfl]
        dsimp only
        omega
      · rw [if_neg h3]
        let midnight : Calendar := { c with second := 0, minute := 0, hour := 0 }
        obtain ⟨hdated', hmore, hwrap⟩ := nextDay_days (c := midnight) hdated
        obtain ⟨hhour, hminute, hsecond⟩ := nextDay_time midnight
        have hdays : midnight.days = c.days := rfl
        have hlast : midnight.LastDay ↔ c.days = 36524 := (days_le_last (c := c) hdated).2
        refine ⟨⟨hdated', by rw [hhour]; exact Nat.zero_le _, by rw [hminute]; exact Nat.zero_le _,
          by rw [hsecond]; exact Nat.zero_le _⟩, ?_⟩
        rw [toSeconds_eq c, toSeconds_eq, hhour, hminute, hsecond]
        by_cases hl : midnight.LastDay
        · rw [hwrap hl]
          have hdays' := hlast.1 hl
          have hspan : c.days * 86400 + c.hour * 3600 + c.minute * 60 + c.second + 1 = 3155760000 := by omega
          rw [hspan, Nat.mod_self]
          simp [midnight]
        · rw [hmore hl, hdays]
          have := mt hlast.2 hl
          dsimp only [midnight]
          omega

/-- The reading is the first of the hundred years exactly after their last second (R147). -/
theorem nextSecond_zero_iff {c : Calendar} (h : c.isValid = true) : c.nextSecond.toSeconds = 0 ↔ c.isLast = true := by
  obtain ⟨hdated, hh, hmin, hsec⟩ := (isValid_iff c).1 h
  obtain ⟨hbound, hlast⟩ := days_le_last (c := c) hdated
  rw [(nextSecond_valid h).2, isLast_iff, hlast, toSeconds_eq]
  omega

/-! ## A second passes (R147, R151, R152) -/

theorem mem_points_iff (r : MachineRecord) (p : Int) :
    p ∈ r.points ↔ p ∈ [r.point1, r.point2, r.point3] ∧ 0 ≤ p := by
  simp only [MachineRecord.points, List.mem_filter, decide_eq_true_eq]

/-- A reading begins the minute of an enabled point (R150, R152). -/
theorem begins_point_iff {c : Calendar} (h : c.isValid = true) (r : MachineRecord) :
    (c.second = 0 ∧ (c.minuteOfDay : Int) ∈ r.points) ↔
      ∃ point ∈ [r.point1, r.point2, r.point3], 0 ≤ point ∧ (c.toSeconds % 86400 : Nat) = point * 60 := by
  obtain ⟨-, hh, hmin, hsec⟩ := (isValid_iff c).1 h
  have hday : c.toSeconds % 86400 = c.hour * 3600 + c.minute * 60 + c.second := by
    rw [toSeconds_eq]
    omega
  rw [hday, mem_points_iff]
  unfold Calendar.minuteOfDay
  constructor
  · rintro ⟨hzero, hmem, hpos⟩
    exact ⟨_, hmem, hpos, by push_cast; omega⟩
  · rintro ⟨p, hmem, hpos, heq⟩
    have hp : ((c.hour * 60 + c.minute : Nat) : Int) = p := by push_cast at heq ⊢; omega
    refine ⟨by push_cast at heq; omega, ?_, ?_⟩
    · rwa [hp]
    · rwa [hp]

/-- A part whose calendar has advanced by one second (R147). -/
def secondCounted (s : State) : State :=
  { s with clock := { s.clock with
      calendar := s.clock.calendar.nextSecond, secondPhase := 0,
      timeSet := if s.clock.calendar.isLast then false else s.clock.timeSet } }

theorem exec_calendarSecond (hpow : s.pins.resetLow = false) : exec .calendarSecond s = .next (secondPasses s) :=
  whilePowered_of_high hpow secondPasses

theorem secondPasses_eq (s : State) : secondPasses s =
    if s.clock.calendar.nextSecond.second = 0 ∧ (s.clock.calendar.nextSecond.minuteOfDay : Int) ∈ s.cal.active.points
    then changeFound (secondCounted s) else secondCounted s := rfl

/-- Settles O43: one second, and the change it finds. -/
theorem calendarCounts : Obligations.CalendarCounts := by
  intro s hpow hvalid active
  obtain ⟨hnext, hseconds⟩ := nextSecond_valid hvalid
  refine ⟨_, secondCounted s, exec_calendarSecond hpow, rfl, rfl, rfl, hnext, hseconds, rfl, ?_, ?_⟩
  · have hzero := nextSecond_zero_iff hvalid
    change (if s.clock.calendar.isLast then false else s.clock.timeSet) =
      (s.clock.timeSet && decide (s.clock.calendar.nextSecond.toSeconds ≠ 0))
    cases hlast : s.clock.calendar.isLast with
    | true => simp [hzero.2 hlast]
    | false =>
      have hne : s.clock.calendar.nextSecond.toSeconds ≠ 0 := fun h => by simp [hzero.1 h] at hlast
      simp [hne]
  · intro changes
    have hchanges : changes ↔ mayRaiseChange (secondCounted s) = true ∧
        (s.clock.calendar.nextSecond.second = 0 ∧
          (s.clock.calendar.nextSecond.minuteOfDay : Int) ∈ s.cal.active.points) := by
      rw [mayRaiseChange_iff, begins_point_iff hnext, and_assoc, and_assoc]
      rfl
    rw [secondPasses_eq, hchanges]
    refine ⟨fun h => ?_, fun h => ?_⟩
    · rw [if_pos h.2, changeFound, if_pos h.1]
      exact raiseShiftChange_changed _
    · by_cases hpoint : s.clock.calendar.nextSecond.second = 0 ∧
          (s.clock.calendar.nextSecond.minuteOfDay : Int) ∈ s.cal.active.points
      · rw [if_pos hpoint, changeFound, if_neg fun hmay => h ⟨hmay, hpoint⟩]
      · rw [if_neg hpoint]

/-! ## TIME telegrams (R148, R149, R153, R161) -/

/-- A part whose calendar has taken a valid reading (R149). -/
def timeTaken (c : Calendar) (s : State) : State :=
  let d : Int := c.toSeconds - s.clock.calendar.toSeconds
  { s with clock := { s.clock with
      calendar := if d < -2 ∨ 2 < d then c else s.clock.calendar,
      secondPhase := if d < -2 ∨ 2 < d then 0 else s.clock.secondPhase, timeSet := true } }

/-- A forward step over an occurrence of an enabled point (R153). -/
def StepFinds (c : Calendar) (s : State) : Prop :=
  let old : Int := s.clock.calendar.toSeconds
  let d : Int := c.toSeconds - old
  2 < d ∧ d ≤ 43200 ∧ ∃ point ∈ [s.cal.active.point1, s.cal.active.point2, s.cal.active.point3], 0 ≤ point ∧
    ∃ day : Int, old < day * 86400 + point * 60 ∧ day * 86400 + point * 60 ≤ old + d

theorem occursBetween_iff (point old new : Int) : occursBetween point old new = true ↔
    ∃ day : Int, old < day * 86400 + point * 60 ∧ day * 86400 + point * 60 ≤ new := by
  rw [occursBetween, decide_eq_true_eq]
  unfold occurrencesUpTo
  constructor
  · exact fun h => ⟨(new - point * 60) / 86400, by omega, by omega⟩
  · rintro ⟨day, hold, hnew⟩
    omega

theorem stepFinds_iff (c : Calendar) (s : State) :
    ((decide (2 < ((c.toSeconds : Int) - stampNow s).natAbs)) = true ∧
      stepFindsChange s.cal.active.points (stampNow s) (c.toSeconds - stampNow s) = true) ↔ StepFinds c s := by
  simp only [stepFindsChange, StepFinds, MachineRecord.points, List.any_filter, Bool.and_eq_true, decide_eq_true_eq,
    List.any_eq_true, occursBetween_iff, and_assoc]
  simp only [stampNow]
  constructor
  · rintro ⟨h1, h2, h3, h4⟩
    exact ⟨by omega, h3, h4⟩
  · rintro ⟨h1, h2, h3⟩
    exact ⟨by omega, by omega, h2, h3⟩

theorem stepCalendar_eq (c : Calendar) (s : State) :
    stepCalendar c (decide (2 < ((c.toSeconds : Int) - stampNow s).natAbs)) s = timeTaken c s := by
  have hout : (decide (2 < ((c.toSeconds : Int) - stampNow s).natAbs)) = true ↔
      (c.toSeconds : Int) - s.clock.calendar.toSeconds < -2 ∨
        2 < (c.toSeconds : Int) - s.clock.calendar.toSeconds := by
    rw [decide_eq_true_eq, stampNow]
    omega
  simp only [stepCalendar, timeTaken, hout]

/-- What a valid TIME telegram does (R149, R153, R161). -/
theorem takeValidTime_of_change {c : Calendar} (htime : s.clock.timeSet = true) (h : StepFinds c s) :
    takeValidTime c s = changeFound (timeTaken c s) := by
  have hfinds := (stepFinds_iff c s).2 h
  rw [takeValidTime, stepCalendar_eq, if_pos (by simp [htime, hfinds.1, hfinds.2]), if_pos htime]

theorem takeValidTime_of_none {c : Calendar} (h : ¬(s.clock.timeSet = true ∧ StepFinds c s)) :
    takeValidTime c s =
      if s.clock.timeSet then timeTaken c s
      else correctOpenTime (c.toSeconds - s.clock.calendar.toSeconds) (timeTaken c s) := by
  rw [takeValidTime, stepCalendar_eq, if_neg fun hall => ?_]
  · rfl
  · simp only [Bool.and_eq_true] at hall
    exact h ⟨hall.1.2, (stepFinds_iff c s).1 ⟨hall.1.1, hall.2⟩⟩

theorem correctOpenTime_of_set (d : Int) (h : s.tally.openTimeSet = true) : correctOpenTime d s = s := if_pos h

theorem correctOpenTime_of_unset {d : Int} (h : s.tally.openTimeSet = false) (hlow : 0 ≤ s.tally.openTime + d)
    (hhigh : s.tally.openTime + d < 3155760000) : correctOpenTime d s =
      { s with
        tally := { s.tally with openTime := (s.tally.openTime + d).toNat, openTimeSet := true },
        display := { s.display with stale := true } } := by
  rw [correctOpenTime, if_neg (by simp [h])]
  simp only [calendarSpan, Nat.cast_ofNat, hlow, hhigh, and_self, if_true]
  rfl

theorem correctOpenTime_frame (d : Int) (s : State) : ∃ f b, correctOpenTime d s =
    { s with tally := f, display := { s.display with stale := b } } := by
  unfold correctOpenTime
  split
  · exact ⟨_, _, rfl⟩
  · exact ⟨_, _, rfl⟩

/-- A shift change leaves the blocks that have no part in it. -/
theorem ShiftChanged.frame (h : ShiftChanged s t) : t = { s with
    trucks := t.trucks, line := t.line, journal := t.journal, tally := t.tally, clock := t.clock,
    display := t.display } := by
  cases hh : headHoldsPass s with
  | false => rw [h.1 hh]
  | true =>
    cases he : s.trucks.entries with
    | nil => simp [headHoldsPass, he] at hh
    | cons e back =>
      have hp : e.passes ≠ [] := by simpa [headHoldsPass, he] using hh
      rw [h.2 e back he hp]

/-- What a shift change leaves does not depend on the stale mark before it. -/
theorem ShiftChanged.of_stale {b : Bool} (h : ShiftChanged { s with display := { s.display with stale := b } } t) :
    ShiftChanged s t := by
  refine ⟨h.1, fun e back he hp => ?_⟩
  have hline : (transmit .truckState (truckStateData s.tally.shift e (.closed .shiftChange) .none back.length)
      { s with display := { s.display with stale := b } }).line =
        (transmit .truckState (truckStateData s.tally.shift e (.closed .shiftChange) .none back.length) s).line :=
    transmit_line_congr _ _ rfl rfl
  rw [h.2 e back he hp, ← hline]
  rfl

/-- Settles O44: an invalid reading, one whose step changes the shift, and any other. -/
theorem timesAreTaken : Obligations.TimesAreTaken := by
  intro r rest s hpow hmode hinbox hkind hacc c old d active clock changes
  have hch : r.kind.channel = some .time := by rw [hkind]; rfl
  obtain ⟨p, b, hexec⟩ := exec_dispatch_accepts hpow hmode hinbox hch hacc
  let u : State := { s with
    line := { s.line with inbox := rest }, prod := p, display := { s.display with stale := b } }
  have htakes : takesTime s.modeCtl.mode = true := by obtain h | h | h := hmode <;> rw [h] <;> rfl
  have huse : useAccepted .time .primary r u = takeTime c u := by rw [useAccepted, useTime, if_pos (Or.inl rfl)]
  have hvalid (h : c.isValid = true) : takeTime c u = takeValidTime c u := by rw [takeTime, if_pos htakes, if_pos h]
  have hinvalid (h : c.isValid = false) :
      takeTime c u = { u with clock := { u.clock with refusedTimes := inc u.clock.refusedTimes } } := by
    rw [takeTime, if_pos htakes, if_neg (by simp [h])]
  have hchanges : changes ↔ (s.clock.timeSet = true ∧ StepFinds c u) ∧ s.clock.lockout = none :=
    ⟨fun ⟨h1, h2, h3⟩ => ⟨⟨h1, h3⟩, h2⟩, fun ⟨⟨h1, h3⟩, h2⟩ => ⟨h1, h2, h3⟩⟩
  have hnone (hv : c.isValid = true) (hn : ¬changes) : takeTime c u =
      if s.clock.timeSet then timeTaken c u else correctOpenTime d (timeTaken c u) := by
    rw [hvalid hv]
    by_cases hall : s.clock.timeSet = true ∧ StepFinds c u
    · have hlockout : ¬mayRaiseChange (timeTaken c u) = true := fun h =>
        hn (hchanges.2 ⟨hall, ((mayRaiseChange_iff _).1 h).2.2⟩)
      rw [takeValidTime_of_change (s := u) hall.1 hall.2, changeFound, if_neg hlockout, if_pos hall.1]
    · exact takeValidTime_of_none (s := u) hall
  have hsome (hv : c.isValid = true) (hc : changes) : ShiftChanged (timeTaken c u) (takeTime c u) := by
    obtain ⟨⟨htime, hfinds⟩, hlockout⟩ := hchanges.1 hc
    have hmay : mayRaiseChange (timeTaken c u) = true := (mayRaiseChange_iff _).2 ⟨hmode, rfl, hlockout⟩
    rw [hvalid hv, takeValidTime_of_change (s := u) htime hfinds, changeFound, if_pos hmay]
    exact raiseShiftChange_changed _
  have hframe : takeTime c u = { u with
      trucks := (takeTime c u).trucks, line := (takeTime c u).line, journal := (takeTime c u).journal,
      tally := (takeTime c u).tally, clock := (takeTime c u).clock, display := (takeTime c u).display } := by
    cases hv : c.isValid with
    | false => rw [hinvalid hv]
    | true =>
      by_cases hc : changes
      · exact (hsome hv hc).frame
      · rw [hnone hv hc]
        obtain ⟨f, b, hcorrect⟩ := correctOpenTime_frame d (timeTaken c u)
        rw [hcorrect]
        split <;> rfl
  refine ⟨_, hexec.trans (congrArg _ huse), (takeTime_keeps c u).line.inbox, by rw [hframe], by rw [hframe],
    by rw [hframe], by rw [hframe], fun hv => ?_, fun hv hc => ?_, fun hv hc => ?_⟩
  · rw [hinvalid hv]
    exact ⟨rfl, rfl, rfl, rfl⟩
  · have hprod : (takeTime c u).prod = p := by rw [hframe]
    rw [hprod]
    exact (hsome hv hc).of_stale
  · rw [hnone hv hc]
    obtain ⟨f, b, hcorrect⟩ := correctOpenTime_frame d (timeTaken c u)
    refine ⟨?_, ?_, ?_, fun hset => ?_, fun htime hopen hlow hhigh => ?_⟩
    · rw [hcorrect]
      split <;> rfl
    · rw [hcorrect]
      split <;> rfl
    · rw [hcorrect]
      split <;> rfl
    · obtain htime | hopen := hset
      · rw [if_pos htime]
        rfl
      · rw [correctOpenTime_of_set (s := timeTaken c u) d hopen]
        split <;> rfl
    · rw [if_neg (by simp [htime]), correctOpenTime_of_unset (s := timeTaken c u) hopen hlow hhigh]
      rfl

end Sys2Proof.Machine
end

section
/-! PROOFS. Requests that no channel takes: SETTINGS and JOURNAL_READ, and a read served (R39 to R44, R201, R202). -/

namespace Sys2Proof.Machine

variable {s t u : State}

/-! ## What a request for the settings leaves (R39) -/

/-- A request for the settings works on the Calibration Unit, the line, the journal and the display, and leaves the
active record. -/
structure SettingsOnly (s t : State) : Prop where
  frame : t = { s with cal := t.cal, line := t.line, journal := t.journal, display := t.display }
  active : t.cal.active = s.cal.active

theorem SettingsOnly.refl (s : State) : SettingsOnly s s := ⟨rfl, rfl⟩

theorem SettingsOnly.trans (h : SettingsOnly s t) (h' : SettingsOnly t u) : SettingsOnly s u where
  frame := by
    rw [h'.frame, h.frame]
  active := h'.active.trans h.active

theorem transmit_settingsOnly (k : TxKind) (d : List Word) (s : State) : SettingsOnly s (transmit k d s) := by
  rw [transmit_eq]
  exact ⟨rfl, rfl⟩

theorem failedSave_settingsOnly (s : State) : SettingsOnly s (captureSaveEnded false s) := ⟨rfl, rfl⟩

theorem startSaving_settingsOnly (s : State) : SettingsOnly s (startSaving s) := by
  unfold startSaving
  split
  · dsimp only
    split
    · exact ⟨rfl, rfl⟩
    · exact ⟨rfl, rfl⟩
  · exact .refl s

/-- A SETTINGS SAVE that was not written is answered; a capture that waits in CHECK goes on (R44, R53). -/
def saveFailedAnswer (s : State) : State :=
  answerSettings true .saveFailed 0 0 { s with cal := { s.cal with save := none } }

theorem settingsSaveEnded_failed (s : State) : settingsSaveEnded false s =
    if (saveFailedAnswer s).cal.capture = .check then startSaving (saveFailedAnswer s) else saveFailedAnswer s := rfl

theorem failedSettingsSave_settingsOnly (s : State) : SettingsOnly s (settingsSaveEnded false s) := by
  have hanswer : SettingsOnly s (saveFailedAnswer s) :=
    .trans (t := { s with cal := { s.cal with save := none } }) ⟨rfl, rfl⟩ (transmit_settingsOnly _ _ _)
  rw [settingsSaveEnded_failed]
  split
  · exact hanswer.trans (startSaving_settingsOnly _)
  · exact hanswer

/-- A SAVE asked of the journal (R42). -/
def saveAsked (s : State) : State :=
  { s with
    cal := { s.cal with save := some .settings },
    journal := (s.journal.append .machine (workingRecord s).body).1 }

theorem startSettingsSave_eq (s : State) : startSettingsSave s =
    if (s.journal.append .machine (workingRecord s).body).2 then saveAsked s
    else settingsSaveEnded false (saveAsked s) := rfl

theorem startSettingsSave_settingsOnly (s : State) : SettingsOnly s (startSettingsSave s) := by
  have hasked : SettingsOnly s (saveAsked s) := ⟨rfl, rfl⟩
  rw [startSettingsSave_eq]
  split
  · exact hasked
  · exact hasked.trans (failedSettingsSave_settingsOnly _)

theorem takeSettings_settingsOnly (target : Nat) (a : SettingsAction) (s : State) :
    SettingsOnly s (takeSettings target a s) := by
  unfold takeSettings
  split
  · split
    · refine .trans (t := { s with cal := { s.cal with refusedSettings := inc s.cal.refusedSettings } }) ⟨rfl, rfl⟩ ?_
      cases a <;> exact transmit_settingsOnly _ _ _
    · cases a with
      | write index v =>
        refine .trans ?_ (transmit_settingsOnly _ _ _)
        split
        · unfold geometryWritten
          dsimp only
          split <;> exact ⟨rfl, rfl⟩
        · exact ⟨rfl, rfl⟩
      | save => exact startSettingsSave_settingsOnly s
  · exact .refl s

/-! ## A dispatched telegram of a kind with an owner (R208) -/

section
variable {r : RxTelegram} {rest : List RxTelegram}

theorem takeTelegram_owner (hch : r.kind.channel = none) : ∃ p b,
    takeTelegram r (inboxPopped rest s) = takeByOwner r { s with
      line := { s.line with inbox := rest }, prod := p, display := { s.display with stale := b } } := by
  have htake : takeTelegram r (inboxPopped rest s) =
      takeByOwner r (setProducers (s.prod.hear r.sender) (inboxPopped rest s)) := by
    rw [takeTelegram, hch]
    rfl
  rw [setProducers_stale] at htake
  exact ⟨_, _, htake⟩

end

theorem addressed_iff (target : Nat) (s : State) :
    addressed target s = true ↔ target = s.modeCtl.station ∧ s.modeCtl.listenOnly = false := by
  simp [addressed]

/-! ## SETTINGS (R39 to R42) -/

theorem refusesSettings_write_iff (index : Nat) (v : Int) (s : State) : refusesSettings (.write index v) s = true ↔
    s.modeCtl.mode ≠ .service ∨ s.cal.save.isSome = true ∨ index < 1 ∨ 18 < index := by
  simp [refusesSettings, or_assoc]

theorem refusesSettings_save_iff (s : State) : refusesSettings .save s = true ↔
    s.modeCtl.mode ≠ .service ∨ s.cal.save.isSome = true := by
  simp [refusesSettings]

theorem takeSettings_refused {target : Nat} {a : SettingsAction} (hown : addressed target s = true)
    (h : refusesSettings a s = true) : takeSettings target a s = refuseSettings a s :=
  (if_pos hown).trans (if_pos h)

theorem takeSettings_write {target index : Nat} {v : Int} (hown : addressed target s = true)
    (h : refusesSettings (.write index v) s = false) : takeSettings target (.write index v) s = writeSettings index v s :=
  (if_pos hown).trans (if_neg (by simp [h]))

theorem takeSettings_save {target : Nat} (hown : addressed target s = true)
    (h : refusesSettings .save s = false) : takeSettings target .save s = startSettingsSave s :=
  (if_pos hown).trans (if_neg (by simp [h]))

/-- The part after a WRITE has stored its value, before the answer (R40, R41). -/
def written (index : Nat) (v : Int) (s : State) : State :=
  let u := { s with cal := { s.cal with working := some ((workingRecord s).write index v) } }
  if index ≤ 4 then geometryWritten u else u

theorem writeSettings_eq (index : Nat) (v : Int) (s : State) :
    writeSettings index v s =
      answerSettings false (writeAnswer (workingRecord s) ((workingRecord s).write index v) index v) index
        (((workingRecord s).write index v).at index) (written index v s) := rfl

theorem written_of_other {index : Nat} (v : Int) (h : ¬index ≤ 4) : written index v s =
    { s with cal := { s.cal with working := some ((workingRecord s).write index v) } } := if_neg h

/-- A WRITE of the geometry removes the curves, and sends a capture in progress back to CAL_IDLE (R41). -/
theorem written_of_geometry {index : Nat} (v : Int) (h : index ≤ 4)
    (hcapture : s.cal.capture.restartsOnGeometry = false) : written index v s = { s with cal := { s.cal with
      working := some { (workingRecord s).write index v with curves := none } } } :=
  (if_pos h).trans (if_neg (by simp [hcapture]))

theorem written_of_restart {index : Nat} (v : Int) (h : index ≤ 4)
    (hcapture : s.cal.capture.restartsOnGeometry = true) : written index v s = { s with
      cal := { s.cal.dropCapture with
        working := some { (workingRecord s).write index v with curves := none }, capture := .idle },
      display := { s.display with message := some .calRestart, messageTimer := some 3000, stale := true } } :=
  (if_pos h).trans (if_pos hcapture)

theorem written_line (index : Nat) (v : Int) (s : State) :
    (written index v s).line = s.line ∧ (written index v s).modeCtl = s.modeCtl ∧
      (written index v s).journal = s.journal := by
  unfold written geometryWritten
  dsimp only
  split
  · split <;> exact ⟨rfl, rfl, rfl⟩
  · exact ⟨rfl, rfl, rfl⟩

/-- A SAVE that the journal takes, and one it drops at once (R42, R190). -/
theorem startSettingsSave_taken (hstate : s.journal.jstate ≠ .fault) (hroom : s.journal.appendQueue.length < 4) :
    startSettingsSave s = saveAsked s := by
  have htaken : (s.journal.append .machine (workingRecord s).body).2 = true := by
    rcases append_cases s.journal .machine (workingRecord s).body with ⟨hfull, -⟩ | ⟨-, heq⟩
    · exact absurd hfull (not_or.2 ⟨hstate, not_le.2 hroom⟩)
    · rw [heq]
  exact if_pos htaken

theorem startSettingsSave_dropped (h : s.journal.jstate = .fault ∨ 4 ≤ s.journal.appendQueue.length)
    (hcapture : s.cal.capture ≠ .check) : startSettingsSave s = saveFailedAnswer (saveAsked s) ∧
      (saveAsked s).journal = { s.journal with lostAppends := inc s.journal.lostAppends } := by
  have hdropped : s.journal.append .machine (workingRecord s).body =
      ({ s.journal with lostAppends := inc s.journal.lostAppends }, false) := if_pos h
  have hnot : ¬(saveFailedAnswer (saveAsked s)).cal.capture = .check := by
    rw [saveFailedAnswer, answerSettings, transmit_eq]
    exact hcapture
  refine ⟨?_, by rw [saveAsked, hdropped]⟩
  rw [startSettingsSave_eq, hdropped, if_neg (by simp), settingsSaveEnded_failed, if_neg hnot]

/-- Settles O34: a request for another part, the refused ones, a WRITE and a SAVE. -/
theorem settingsAreTaken : Obligations.SettingsAreTaken := by
  intro r rest s hpow hover hinbox hkind action own copy quiet sent refused
  obtain ⟨p, b, htake⟩ := takeTelegram_owner (s := s) (rest := rest) (r := r) (by rw [hkind]; rfl)
  let u : State := { s with line := quiet, prod := p, display := { s.display with stale := b } }
  have hexec : exec .dispatch s = .next (takeSettings (settingsFields r.data).1 action u) := by
    rw [exec_dispatch_of_not_over hpow hover hinbox, htake, takeByOwner, hkind]
  have hown : own ↔ addressed (settingsFields r.data).1 u = true := (addressed_iff _ u).symm
  have hsent {v : State} (d : List Word) (hline : v.line = u.line) (hmode : v.modeCtl = u.modeCtl) :
      (transmit .settingsAnswer d v).line = sent d := transmit_line_congr _ _ hline hmode
  obtain ⟨hframe, hactive⟩ := takeSettings_settingsOnly (settingsFields r.data).1 action u
  refine ⟨_, hexec, by rw [hframe], hactive, by rw [hframe], by rw [hframe], by rw [hframe], by rw [hframe],
    by rw [hframe], fun hnot => ?_, fun index v ho ha hrefuse => ?_, fun ho ha hrefuse => ?_,
    fun index v ho ha hmode hsave hlow hhigh => ?_, fun ho ha hmode hsave => ⟨fun hstate hroom => ?_,
      fun hfull hcapture => ?_⟩⟩
  · rw [show takeSettings (settingsFields r.data).1 action u = u from if_neg (hown.not.1 hnot)]
    exact ⟨rfl, rfl, rfl⟩
  · have hvalue : refusedValue index u = (if s.modeCtl.mode = .service then copy else s.cal.active).at index := by
      unfold refusedValue
      split <;> rfl
    rw [ha, takeSettings_refused (hown.1 ho) ((refusesSettings_write_iff _ _ u).2 hrefuse), refuseSettings, hvalue,
      answerSettings, transmit_eq]
    exact ⟨rfl, rfl, hsent _ rfl rfl⟩
  · rw [ha, takeSettings_refused (hown.1 ho) ((refusesSettings_save_iff u).2 hrefuse), refuseSettings,
      answerSettings, transmit_eq]
    exact ⟨rfl, rfl, hsent _ rfl rfl⟩
  · have htaken : refusesSettings (.write index v) u = false :=
      Bool.eq_false_iff.2 fun h => by
        obtain h | h | h | h := (refusesSettings_write_iff _ _ u).1 h
        · exact h hmode
        · exact absurd hsave (Option.isSome_iff_ne_none.1 h)
        · exact absurd hlow (not_le.2 h)
        · exact absurd hhigh (not_le.2 h)
    obtain ⟨hline, hmodeCtl, hjournal⟩ := written_line index v u
    rw [ha, takeSettings_write (hown.1 ho) htaken, writeSettings_eq, answerSettings, transmit_eq]
    refine ⟨hjournal, hsent _ hline hmodeCtl, fun hfive => ?_, fun hfour => ?_⟩
    · rw [written_of_other (s := u) v (not_le.2 hfive)]
      rfl
    · cases hrestarts : s.cal.capture.restartsOnGeometry with
      | true =>
        rw [written_of_restart (s := u) v hfour hrestarts]
        exact ⟨rfl, fun _ => ⟨rfl, rfl, rfl, rfl, rfl⟩, fun h => absurd h (by decide)⟩
      | false =>
        rw [written_of_geometry (s := u) v hfour hrestarts]
        exact ⟨rfl, fun h => absurd h (by decide), fun _ => rfl⟩
  · have htaken : refusesSettings .save u = false :=
      Bool.eq_false_iff.2 fun h => ((refusesSettings_save_iff u).1 h).elim (fun h => h hmode) fun h => by
        exact absurd hsave (Option.isSome_iff_ne_none.1 h)
    rw [ha, takeSettings_save (hown.1 ho) htaken, startSettingsSave_taken (s := u) hstate hroom]
    exact ⟨rfl, rfl, rfl⟩
  · have htaken : refusesSettings .save u = false :=
      Bool.eq_false_iff.2 fun h => ((refusesSettings_save_iff u).1 h).elim (fun h => h hmode) fun h => by
        exact absurd hsave (Option.isSome_iff_ne_none.1 h)
    obtain ⟨hdropped, hjournal⟩ := startSettingsSave_dropped (s := u) hfull hcapture
    rw [ha, takeSettings_save (hown.1 ho) htaken, hdropped, saveFailedAnswer, answerSettings, transmit_eq]
    refine ⟨?_, hsent _ rfl rfl, hjournal⟩
    rw [← hsave]
    rfl

/-! ## Reads (R201, R202) -/

theorem takesReads_iff (m : Mode) : takesReads m = true ↔ m = .run ∨ m = .service ∨ m = .closing := by
  cases m <;> simp [takesReads]

theorem takeJournalRead_ignored {target : Nat} (seq : Nat)
    (h : ¬(addressed target s = true ∧ takesReads s.modeCtl.mode = true)) : takeJournalRead target seq s = s :=
  if_neg (by simpa using h)

theorem takeJournalRead_taken {target : Nat} (seq : Nat) (haddressed : addressed target s = true)
    (hmode : takesReads s.modeCtl.mode = true) : (takeJournalRead target seq s).journal =
      if s.journal.drainAsked = true ∨ 2 ≤ s.journal.readQueue.length then
        { s.journal with lostReads := inc s.journal.lostReads }
      else Journal.pump { s.journal with readQueue := s.journal.readQueue ++ [seq] } := by
  rw [takeJournalRead, if_pos (by simp [haddressed, hmode]), Journal.requestRead]
  by_cases hdrain : s.journal.drainAsked = true
  · rw [if_pos hdrain, if_pos (.inl hdrain)]
  · rw [if_neg hdrain]
    by_cases hfull : 2 ≤ s.journal.readQueue.length
    · rw [if_pos hfull, if_pos (.inr hfull)]
    · rw [if_neg hfull, if_neg (not_or.2 ⟨hdrain, hfull⟩)]

theorem takeJournalRead_frame (target seq : Nat) (s : State) :
    takeJournalRead target seq s = { s with journal := (takeJournalRead target seq s).journal } := by
  unfold takeJournalRead
  repeat' split
  all_goals rfl

theorem foldl_transmit (k : TxKind) : ∀ (l : List (List Word)) (s : State),
    l.foldl (fun t d => transmit k d t) s = { s with line := (l.foldl (fun t d => transmit k d t) s).line }
  | [], _ => rfl
  | d :: l, s => by
    rw [List.foldl_cons, foldl_transmit k l, transmit_eq k d s]

theorem exec_readServed (hpow : s.pins.resetLow = false) (hmode : s.modeCtl.mode ≠ .standby) {seq : Nat}
    (hserving : s.journal.serving = some seq) : exec .readServed s = .next { s with
      line := ((s.journal.answer seq).foldl (fun u d => transmit .journalRecord d u) s).line,
      journal := Journal.pump { s.journal with serving := none } } := by
  rw [show exec .readServed s = execReadServed s from rfl, execReadServed, whilePowered_of_high hpow]
  simp only [hserving, hmode, if_false, serveRead]
  rw [foldl_transmit]

/-- The record found has the lowest sequence number of its list. -/
theorem lowest_spec : ∀ {l : List RecordRef} {r : RecordRef}, lowest l = some r → r ∈ l ∧ ∀ q ∈ l, r.seq ≤ q.seq
  | x :: l, r, h => by
    unfold lowest at h
    cases hl : lowest l with
    | none =>
      have hnil : l = [] := by
        cases l with
        | nil => rfl
        | cons y l =>
          unfold lowest at hl
          split at hl
          · cases hl
          · split at hl <;> cases hl
      simp only [hl, Option.some.injEq] at h
      subst h hnil
      simp
    | some y =>
      obtain ⟨hy, hleast⟩ := lowest_spec hl
      simp only [hl] at h
      split at h
      · next hlt =>
        cases h
        refine ⟨List.mem_cons_self, fun q hq => ?_⟩
        obtain rfl | hq := List.mem_cons.1 hq
        · exact le_refl _
        · exact hlt.le.trans (hleast q hq)
      · next hge =>
        cases h
        refine ⟨List.mem_cons_of_mem _ hy, fun q hq => ?_⟩
        obtain rfl | hq := List.mem_cons.1 hq
        · exact not_lt.1 hge
        · exact hleast q hq

/-- Settles O54: a request taken, dropped or ignored, and the answer to a read served. -/
theorem readsAreServed : Obligations.ReadsAreServed := by
  refine ⟨?_, fun seq s hpow hmode hserving => ⟨fun hnone => ?_, fun r hr => ?_, ?_⟩⟩
  · intro r rest s hpow hinbox hkind taken
    obtain ⟨p, b, htake⟩ := takeTelegram_owner (s := s) (rest := rest) (r := r) (by rw [hkind]; rfl)
    let u : State := { s with
      line := { s.line with inbox := rest }, prod := p, display := { s.display with stale := b } }
    let seq := (journalReadFields r.data).2
    let v := takeJournalRead (journalReadFields r.data).1 seq u
    have hexec : exec .dispatch s = .next (closingCheck v) := by
      rw [exec_dispatch hpow hinbox, htake, takeByOwner, hkind]
    have hv : v = { u with journal := v.journal } := takeJournalRead_frame _ _ u
    have htaken : taken ↔
        addressed (journalReadFields r.data).1 u = true ∧ takesReads s.modeCtl.mode = true := by
      rw [addressed_iff, takesReads_iff, and_assoc]
    have hjournal (h : taken) := takeJournalRead_taken (s := u) seq (htaken.1 h).1 (htaken.1 h).2
    refine ⟨_, hexec, ?_⟩
    rw [closingCheck_frame]
    change v.weigher = _ ∧ v.trucks = _ ∧ v.pass = _ ∧ v.cycle = _ ∧ v.tally = _ ∧ v.clock = _ ∧
      (_ → v.journal = _) ∧ (_ → _ → _ → v.journal = _) ∧ (_ → _ → v.journal = _)
    refine ⟨by rw [hv], by rw [hv], by rw [hv], by rw [hv], by rw [hv], by rw [hv], fun hnot => ?_,
      fun h hdrain hroom => ?_, fun h hdrop => ?_⟩
    · have hsame : v = u := takeJournalRead_ignored (s := u) seq (htaken.not.1 hnot)
      rw [hsame]
    · exact (hjournal h).trans (if_neg (by simp [u, hdrain, hroom]))
    · exact (hjournal h).trans (if_pos hdrop)
  · rw [exec_readServed hpow hmode hserving, Journal.answer, hnone]
    rfl
  · obtain ⟨hmem, hleast⟩ := lowest_spec hr
    simp only [List.mem_filter, Bool.and_eq_true, bne_iff_ne, decide_eq_true_eq] at hmem hleast
    exact ⟨hmem.2.1, hmem.2.2, hmem.1, fun q hq hkind hseq => hleast q ⟨hq, hkind, hseq⟩⟩
  · exact ⟨_, exec_readServed hpow hmode hserving, rfl, rfl, rfl⟩

end Sys2Proof.Machine
end

section
/-! PROOFS. What a sample set does to the Weigher (R14 to R20, R24 to R30). -/

namespace Sys2Proof.Machine

variable {s : State}

/-- A part whose Weigher has the angle of a set. -/
def angleKept (x : SampleSet) (s : State) : State := { s with weigher := { s.weigher with lastBoom := some x.theta } }

theorem belowOrAbove_some (v lo : Int) : belowOrAbove (some v) lo = if v < lo then .below else .above := rfl

/-! ## Contributions (R17) -/

theorem minWith_some (b m : Int) : minWith (some b) m = some (min b m) := by
  unfold minWith
  dsimp only
  split <;> congr 1 <;> omega

theorem maxWith_some (b m : Int) : maxWith (some b) m = some (max b m) := by
  unfold maxWith
  dsimp only
  split <;> congr 1 <;> omega

theorem contribute_of_curves {c : Curves} (h : s.cal.active.curves = some c) (x : SampleSet) :
    contribute x s = { s with weigher := { s.weigher with
      acc := s.weigher.acc.add (estimate s.cal.active c x) x } } := by
  rw [contribute, h]

/-- The entry set contributes to the accumulator it starts (R15, R17). -/
theorem add_entered (x : SampleSet) (m : Int) : (Accumulator.entered x.theta).add m x =
    { sum := m, count := 1, min := some m, max := some m,
      flags := { degraded := x.degraded, slope := steep x.phi, noSlope := x.phi.isNone },
      disagree := if x.disagree then 1 else 0, thMax := some x.theta, stallRef := some x.theta,
      inputTimer := some 0, stallTimer := some 0 } := by
  have hstall : ¬x.theta + 10 ≤ x.theta := by omega
  simp [Accumulator.add, Accumulator.entered, Accumulator.cleared, hstall, minWith, maxWith, LiftFlags.withSet]

/-- A set that contributes to a lift in progress (R17). -/
theorem add_of_lift {a : Accumulator} {lo hi top ref : Int} (hmin : a.min = some lo) (hmax : a.max = some hi)
    (htop : a.thMax = some top) (href : a.stallRef = some ref) (m : Int) (x : SampleSet) : a.add m x =
      { a with
        sum := if a.count < 65535 then a.sum + m else a.sum,
        count := if a.count < 65535 then a.count + 1 else a.count,
        min := some (min lo m), max := some (max hi m),
        flags := {
          degraded := a.flags.degraded || x.degraded, slope := a.flags.slope || steep x.phi,
          noSlope := a.flags.noSlope || x.phi.isNone },
        disagree := if x.disagree = true ∧ a.count < 65535 then a.disagree + 1 else a.disagree,
        thMax := some (max top x.theta),
        stallRef := some (if ref + 10 ≤ max top x.theta then max top x.theta else ref),
        stallTimer := if ref + 10 ≤ max top x.theta then some 0 else a.stallTimer } := by
  simp only [Accumulator.add, hmin, hmax, htop, href, minWith_some, maxWith_some, Option.getD_some, decide_eq_true_eq,
    Bool.and_eq_true, LiftFlags.withSet, apply_ite some]

/-! ## The states (R14, R15, R18) -/

theorem weigherSet_kept (x : SampleSet)
    (h : s.weigher.state = .noCal ∨ s.weigher.state = .off ∨ s.weigher.state = .held) :
    weigherSet x s = angleKept x s := by
  obtain h | h | h := h <;> (rw [weigherSet, h]; rfl)

theorem weigherSet_above (x : SampleSet) (h : s.weigher.state = .above) : weigherSet x s =
    { angleKept x s with weigher := { s.weigher with
      lastBoom := some x.theta, state := if x.theta < s.cal.active.thetaLo then .below else .above } } := by
  rw [weigherSet, h]
  dsimp only
  split
  · rfl
  · rw [← h]
    rfl

theorem weigherSet_below (x : SampleSet) (h : s.weigher.state = .below) : weigherSet x s =
    if x.theta < s.cal.active.thetaLo then angleKept x s else entrySet x (angleKept x s) := by
  rw [weigherSet, h]
  rfl

theorem weigherSet_inWindow (x : SampleSet) (h : s.weigher.state = .inWindow) :
    weigherSet x s = windowSet x (angleKept x s) := by
  rw [weigherSet, h]
  rfl

/-- The Weigher in a lift, its input timer restarted by a set (R18, R21). -/
def inputRestarted (s : State) : State :=
  { s with weigher := { s.weigher with acc := { s.weigher.acc with inputTimer := some 0 } } }

/-- The tests of R18 on a set in IN_WINDOW, in their order. -/
theorem windowSet_eq (x : SampleSet) (s : State) : windowSet x s =
    if x.theta < s.weigher.acc.thMax.getD x.theta - 50 ∨ x.theta < s.cal.active.thetaLo then
      abortLift .reverse (inputRestarted s)
    else if x.beta < s.cal.active.betaMin - 200 then abortLift .tilt (inputRestarted s)
    else if s.cal.active.thetaHi ≤ x.theta then
      if s.weigher.acc.count < 8 then abortLift .short (inputRestarted s) else completeLift (inputRestarted s)
    else contribute x (inputRestarted s) := rfl

/-! ## Completion (R26 to R30) -/

theorem zeroLift_of_within (hlow : -1000 ≤ s.weigher.acc.average) (hhigh : s.weigher.acc.average ≤ 1000) :
    zeroLift s = { s with
      weigher := { s.weigher with
        state := .above, acc := s.weigher.acc.stopTimers, zeroArmed := false, z := s.weigher.acc.average },
      display := { s.display with message := some .zeroSet, messageTimer := some 3000, stale := true } } := by
  simp only [zeroLift, hlow, hhigh, decide_true, Bool.and_true, if_true]
  rfl

theorem zeroLift_of_outside (h : s.weigher.acc.average < -1000 ∨ 1000 < s.weigher.acc.average) :
    zeroLift s = { s with
      weigher := { s.weigher with state := .above, acc := s.weigher.acc.stopTimers, zeroArmed := false },
      display := { s.display with message := some .zeroTooLarge, messageTimer := some 3000, stale := true } } := by
  have hok : (decide (-1000 ≤ s.weigher.acc.average) && decide (s.weigher.acc.average ≤ 1000)) = false := by
    obtain h | h := h <;> simp [h]
  simp only [zeroLift, hok, Bool.false_eq_true, if_false]
  rfl

/-- Settles O26: by the Weigher's state, and in IN_WINDOW by the tests of R18. -/
theorem liftsAreWeighed : Obligations.LiftsAreWeighed := by
  intro x s r w a message aborted reverse tilt ended weight
  have hwindow (hstate : s.weigher.state = .inWindow) :=
    (weigherSet_inWindow x hstate).trans (windowSet_eq x (angleKept x s))
  refine ⟨weigherSet_kept x, fun hstate => weigherSet_above x hstate, fun hstate => ?_, fun hstate => ?_⟩
  · rw [weigherSet_below x hstate]
    refine ⟨fun hlow => if_pos hlow, fun hlow hbeta => ?_, fun hlow hbeta hhigh => ?_, fun c hc hlow hbeta hhigh => ?_⟩
    · rw [if_neg (not_lt.2 hlow)]
      exact if_neg (not_le.2 hbeta)
    · rw [if_neg (not_lt.2 hlow)]
      exact (if_pos hbeta).trans (if_pos hhigh)
    · rw [if_neg (not_lt.2 hlow)]
      let lift : State := { angleKept x s with weigher := { (angleKept x s).weigher with
        state := .inWindow, acc := .entered x.theta } }
      have hcontributed := contribute_of_curves (s := lift) hc x
      rw [show lift.weigher.acc = .entered x.theta from rfl, add_entered] at hcontributed
      exact ((if_pos hbeta).trans (if_neg (not_le.2 hhigh))).trans hcontributed
  · rw [hwindow hstate]
    refine ⟨fun hrev => if_pos hrev, fun hrev htilt => (if_neg hrev).trans (if_pos htilt),
      fun hrev htilt hhigh hcount => (if_neg hrev).trans ((if_neg htilt).trans ((if_pos hhigh).trans (if_pos hcount))),
      fun c lo hi top ref hc hrev htilt hhigh hmin hmax htop href => ?_, fun hrev htilt hhigh hcount => ?_⟩
    · have hcontributed := contribute_of_curves (s := inputRestarted (angleKept x s)) hc x
      rw [add_of_lift (a := (inputRestarted (angleKept x s)).weigher.acc) (lo := lo) (hi := hi) (top := top) (ref := ref)
        hmin hmax htop href] at hcontributed
      exact ((if_neg hrev).trans ((if_neg htilt).trans (if_neg (not_le.2 hhigh)))).trans hcontributed
    · let u := inputRestarted (angleKept x s)
      have hcomplete : (if x.theta < (angleKept x s).weigher.acc.thMax.getD x.theta - 50 ∨
            x.theta < (angleKept x s).cal.active.thetaLo then abortLift .reverse u
          else if x.beta < (angleKept x s).cal.active.betaMin - 200 then abortLift .tilt u
          else if (angleKept x s).cal.active.thetaHi ≤ x.theta then
            if (angleKept x s).weigher.acc.count < 8 then abortLift .short u else completeLift u
          else contribute x u) = completeLift u :=
        (if_neg hrev).trans ((if_neg htilt).trans ((if_pos hhigh).trans (if_neg (not_lt.2 hcount))))
      rw [hcomplete]
      refine ⟨fun harmed hlow hhigh => ?_, fun harmed hout => ?_, fun harmed hempty => ?_, fun harmed hpass => ?_⟩
      · exact (if_pos harmed).trans (zeroLift_of_within (s := u) hlow hhigh)
      · exact (if_pos harmed).trans (zeroLift_of_outside (s := u) hout)
      · exact (if_neg (by simp [u, inputRestarted, angleKept, harmed])).trans (if_pos hempty)
      · exact (if_neg (by simp [u, inputRestarted, angleKept, harmed])).trans (if_neg (not_lt.2 hpass))

end Sys2Proof.Machine
end

section
/-! PROOFS. The Cycle Tracker (R126 to R140, R143). -/

namespace Sys2Proof.Machine

variable {s : State}

/-! ## Completion (R140) -/

/-- What the completion of a cycle leaves: its record, its figures and its CYCLE telegram. -/
theorem completeCycle_eq (noDrive noReverse : Bool) (s : State) :
    let r := s.cycle.completed noDrive noReverse (stampNow s)
    completeCycle noDrive noReverse s = { s with
      cycle := { s.cycle with
        phase := .dig, timer := 0, timerSub := 0, current := .fresh (nextCycle r.number), last := some r,
        lastShift := some s.tally.shift },
      tally := s.tally.cycleComplete r.total r.flags.weighed,
      line := (transmit .cycle (cycleData s.tally.shift r) s).line,
      display := { s.display with stale := true } } := by
  intro r
  rw [completeCycle, transmit_from (s := s)]
  all_goals rfl

/-- The same, of a part that differs in its tracker and its mail only. -/
theorem completeCycle_from {t : State} (noDrive noReverse : Bool)
    (ht : t = { s with cycle := t.cycle, mail := t.mail }) :
    let r := t.cycle.completed noDrive noReverse (stampNow s)
    completeCycle noDrive noReverse t = { s with
      cycle := { t.cycle with
        phase := .dig, timer := 0, timerSub := 0, current := .fresh (nextCycle r.number), last := some r,
        lastShift := some s.tally.shift },
      tally := s.tally.cycleComplete r.total r.flags.weighed,
      line := (transmit .cycle (cycleData s.tally.shift r) s).line,
      display := { s.display with stale := true }, mail := t.mail } := by
  intro r
  have hline := transmit_line_congr (t := t) (s := s) .cycle (cycleData s.tally.shift r) (by rw [ht]) (by rw [ht])
  rw [completeCycle_eq, ← hline]
  generalize t.cycle = c at ht r
  generalize t.mail = m at ht
  subst ht
  rfl

/-- The test for completion in RETURN (R135). -/
theorem testCompletion_met (hdown : s.cycle.boomDown s.cal.active.thetaLo = true) (h : s.cycle.latch = .met) :
    testCompletion s = completeCycle false false s := (if_pos hdown).trans (if_pos h)

theorem testCompletion_noDrive (hdown : s.cycle.boomDown s.cal.active.thetaLo = true) (h : s.cycle.latch ≠ .met)
    (hdrive : s.prod.available .drive = false) : testCompletion s = completeCycle true false s :=
  (if_pos hdown).trans ((if_neg h).trans (if_neg (by simp [hdrive])))

theorem testCompletion_waits (h : s.cycle.boomDown s.cal.active.thetaLo = false ∨
    (s.cycle.latch ≠ .met ∧ s.prod.available .drive = true)) : testCompletion s = s := by
  unfold testCompletion
  split
  · next hdown =>
    obtain ⟨hlatch, hdrive⟩ := h.resolve_left (by simp [hdown])
    rw [if_neg hlatch, if_pos hdrive]
  · rfl

/-! ## Values (R126, R127) -/

theorem boomPhase_of_dig (v : Int) (h : s.cycle.phase = .dig) : boomPhase v s =
    if s.cal.active.thetaLo ≤ v then setCycle (s.cycle.change .loaded) s else s := by rw [boomPhase, h]

theorem boomPhase_of_loaded (v : Int) (h : s.cycle.phase = .loaded) : boomPhase v s =
    if v < s.cal.active.thetaLo then redigNow s
    else if s.cycle.tipped s.cal.active.betaDump then dumpNow s else s := by rw [boomPhase, h]

theorem boomPhase_of_dump (v : Int) (h : s.cycle.phase = .dump) : boomPhase v s = s := by rw [boomPhase, h]

theorem boomPhase_of_ret (v : Int) (h : s.cycle.phase = .ret) : boomPhase v s =
    if v < s.cal.active.thetaLo then testCompletion (setCycle { s.cycle with lowSeen := true } s)
    else if s.cycle.lowSeen then
      setCycle ((completeCycle false true s).cycle.change .loaded) (completeCycle false true s)
    else s := by rw [boomPhase, h]

theorem cycleBoom_of_hold (v : Int) (h : s.cycle.hold = true) :
    cycleBoom v s = { s with cycle := { s.cycle with lastBoom := some v } } := if_pos h

theorem cycleBucket_of_hold (v : Int) (h : s.cycle.hold = true) :
    cycleBucket v s = { s with cycle := { s.cycle with lastBucket := some v } } := if_pos h

theorem cycleDrive_of_hold (v : Int) (h : s.cycle.hold = true) : cycleDrive v s = s := if_pos h

theorem cycleBoom_of_up {v : Int} (h : s.cycle.hold = false) (hv : s.cal.active.thetaLo ≤ v) :
    cycleBoom v s = boomPhase v { s with cycle := { s.cycle with lastBoom := some v } } := by
  rw [cycleBoom]
  dsimp only
  rw [if_neg (by simp [h]), if_neg (by simp [hv])]
  rfl

/-- A boom value below the window start raises the event where the one before was not (R137). -/
theorem cycleBoom_of_down {v : Int} (h : s.cycle.hold = false) (hv : v < s.cal.active.thetaLo) :
    cycleBoom v s = boomPhase v { s with
      cycle := { s.cycle with lastBoom := some v },
      mail := { s.mail with boomBelow := s.mail.boomBelow +
        (if s.cycle.lastBoom.any (fun b => s.cal.active.thetaLo ≤ b) then 1 else 0) } } := by
  rw [cycleBoom]
  dsimp only
  rw [if_neg (by simp [h]), CycleTracker.boomUp]
  cases s.cycle.lastBoom.any (fun b => s.cal.active.thetaLo ≤ b) <;> simp [hv, setCycle, raiseBoomBelow]

/-- A part with a bucket value kept (R127). -/
abbrev bucketKept (v : Int) (s : State) : State := { s with cycle := { s.cycle with lastBucket := some v } }

/-- The boom is at or above the window start. -/
abbrev BoomIsUp (s : State) : Prop := s.cycle.lastBoom.any (fun b => s.cal.active.thetaLo ≤ b) = true

section
variable {v : Int} (h : s.cycle.hold = false)
include h

theorem cycleBucket_of_follow : cycleBucket v s = match s.cycle.phase with
    | .dig => bucketKept v s
    | .loaded => if v ≤ s.cal.active.betaDump ∧ BoomIsUp s then dumpNow (bucketKept v s) else bucketKept v s
    | .dump => if s.cal.active.betaDump + 200 < v then returnNow (bucketKept v s) else bucketKept v s
    | .ret => if v ≤ s.cal.active.betaDump ∧ BoomIsUp s ∧ s.cycle.lowSeen = false then shakeNow (bucketKept v s)
        else bucketKept v s := by
  have hkept : setCycle { s.cycle with lastBucket := some v } s = bucketKept v s := rfl
  unfold cycleBucket
  rw [hkept, if_neg (by simp [h])]
  generalize bucketKept v s = t
  simp only [Bool.and_eq_true, decide_eq_true_eq, and_assoc, Bool.not_eq_true', BoomIsUp, CycleTracker.boomUp] <;>
    cases s.cycle.phase <;> rfl

theorem cycleBucket_of_dig (hphase : s.cycle.phase = .dig) : cycleBucket v s = bucketKept v s := by
  rw [cycleBucket_of_follow h, hphase]

theorem cycleBucket_of_loaded (hphase : s.cycle.phase = .loaded) : cycleBucket v s =
    if v ≤ s.cal.active.betaDump ∧ BoomIsUp s then dumpNow (bucketKept v s) else bucketKept v s := by
  rw [cycleBucket_of_follow h, hphase]

theorem cycleBucket_of_dump (hphase : s.cycle.phase = .dump) : cycleBucket v s =
    if s.cal.active.betaDump + 200 < v then returnNow (bucketKept v s) else bucketKept v s := by
  rw [cycleBucket_of_follow h, hphase]

theorem cycleBucket_of_ret (hphase : s.cycle.phase = .ret) : cycleBucket v s =
    if v ≤ s.cal.active.betaDump ∧ BoomIsUp s ∧ s.cycle.lowSeen = false then shakeNow (bucketKept v s)
    else bucketKept v s := by
  rw [cycleBucket_of_follow h, hphase]

end

/-- A shake joins the cycle's count and flags (R132). -/
theorem shakeNow_eq (hphase : s.cycle.phase = .ret) :
    let spent := s.cycle.current.addSpell .ret s.cycle.timer
    shakeNow s = { s with cycle := { s.cycle with
      phase := .dump, timer := 0, timerSub := 0,
      current := { spent with
        shakes := min 255 (spent.shakes + 1), flags := { spent.flags with shake := true } } } } := by
  intro spent
  rw [shakeNow, CycleTracker.change, hphase]
  rfl

theorem cycleDrive_of_ret (v : Int) (h : s.cycle.hold = false) (hphase : s.cycle.phase = .ret) :
    cycleDrive v s = testCompletion { s with cycle := { s.cycle with latch := s.cycle.latch.move v } } := by
  rw [cycleDrive, if_neg (by simp [h]), hphase]
  rfl

theorem cycleDrive_of_other (v : Int) (h : s.cycle.hold = false) (hphase : s.cycle.phase ≠ .ret) :
    cycleDrive v s = s := by
  rw [cycleDrive, if_neg (by simp [h])]
  cases hp : s.cycle.phase with
  | ret => exact absurd hp hphase
  | dig | loaded | dump => rfl

theorem latch_move_eq (l : DriveLatch) (v : Int) : l.move v = match l with
    | .none => if v = 2 then .reverseSeen else .none
    | .reverseSeen => if v = 1 then .met else .reverseSeen
    | .met => .met := by
  cases l <;> rfl

/-- Settles O41: hold, a boom value in the window and below it, a bucket value and a drive value, by the phase. -/
theorem cyclesFollowTheMachine : Obligations.CyclesFollowTheMachine := by
  intro v s c lo dump up spell spent record begun ended
  refine ⟨fun h => ⟨cycleBoom_of_hold v h, cycleBucket_of_hold v h, cycleDrive_of_hold v h⟩, fun h hv => ?_,
    fun h hv => ?_, fun h => ?_, fun h => ?_⟩
  · rw [cycleBoom_of_up h hv]
    let u : State := { s with cycle := { c with lastBoom := some v } }
    change (_ → boomPhase v u = _) ∧ (_ → _ → boomPhase v u = _) ∧ (_ → _ → boomPhase v u = _) ∧
      (_ → boomPhase v u = _) ∧ (_ → _ → boomPhase v u = _)
    refine ⟨fun hp => ?_, fun hp htip => ?_, fun hp htip => ?_, fun hp => ?_, fun hp hlow => ?_⟩
    · exact (boomPhase_of_dig (s := u) v hp).trans (if_pos hv)
    · exact (boomPhase_of_loaded (s := u) v hp).trans
        ((if_neg (not_lt.2 hv)).trans (if_neg (Bool.eq_false_iff.1 htip)))
    · exact (boomPhase_of_loaded (s := u) v hp).trans ((if_neg (not_lt.2 hv)).trans (if_pos htip))
    · obtain hp | ⟨hp, hlow⟩ := hp
      · exact boomPhase_of_dump (s := u) v hp
      · exact (boomPhase_of_ret (s := u) v hp).trans
          ((if_neg (not_lt.2 hv)).trans (if_neg (Bool.eq_false_iff.1 hlow)))
    · refine ((boomPhase_of_ret (s := u) v hp).trans ((if_neg (not_lt.2 hv)).trans (if_pos hlow))).trans ?_
      rw [completeCycle_from (s := s) false true (t := u) rfl]
      rfl
  · rw [cycleBoom_of_down h hv]
    intro mail low
    let u : State := { s with cycle := { c with lastBoom := some v }, mail := mail }
    let w : State := { s with cycle := low, mail := mail }
    have hdown : w.cycle.boomDown w.cal.active.thetaLo = true := decide_eq_true hv
    change (_ → boomPhase v u = _) ∧ (_ → boomPhase v u = _) ∧ (_ → (_ → boomPhase v u = _) ∧
      (_ → _ → boomPhase v u = _) ∧ (_ → _ → boomPhase v u = _))
    refine ⟨fun hp => ?_, fun hp => ?_, fun hp => ?_⟩
    · obtain hp | hp := hp
      · exact (boomPhase_of_dig (s := u) v hp).trans (if_neg (not_le.2 hv))
      · exact boomPhase_of_dump (s := u) v hp
    · exact (boomPhase_of_loaded (s := u) v hp).trans (if_pos hv)
    · have hret : boomPhase v u = testCompletion w := (boomPhase_of_ret (s := u) v hp).trans (if_pos hv)
      rw [hret]
      refine ⟨fun hl => ?_, fun hl hdrive => ?_, fun hl hdrive => ?_⟩
      · exact (testCompletion_met hdown hl).trans (completeCycle_from (s := s) false false rfl)
      · exact (testCompletion_noDrive hdown hl hdrive).trans (completeCycle_from (s := s) true false rfl)
      · exact testCompletion_waits (.inr ⟨hl, hdrive⟩)
  · refine ⟨fun hp hv hup => ?_, fun hp hv => ?_, fun hp hv hup hlow => ?_, fun hrest => ?_⟩
    · exact (cycleBucket_of_loaded h hp).trans (if_pos ⟨hv, hup⟩)
    · exact (cycleBucket_of_dump h hp).trans (if_pos hv)
    · exact ((cycleBucket_of_ret h hp).trans (if_pos ⟨hv, hup, hlow⟩)).trans (shakeNow_eq (s := bucketKept v s) hp)
    · obtain hp | ⟨hp, hnot⟩ | ⟨hp, hv⟩ | ⟨hp, hnot⟩ := hrest
      · exact cycleBucket_of_dig h hp
      · exact (cycleBucket_of_loaded h hp).trans (if_neg fun hboth => hnot.elim (not_lt.2 hboth.1) (· hboth.2))
      · exact (cycleBucket_of_dump h hp).trans (if_neg (not_lt.2 hv))
      · refine (cycleBucket_of_ret h hp).trans (if_neg ?_)
        rintro ⟨hv, hup, hlow⟩
        obtain hv' | hup' | hlow' := hnot
        · exact not_lt.2 hv hv'
        · exact hup' hup
        · exact absurd (hlow.symm.trans hlow') (by decide)
  · refine ⟨fun hp => cycleDrive_of_other v h hp, fun hp => ?_⟩
    intro latch moved down
    let w : State := { s with cycle := moved }
    have hlatch : c.latch.move v = latch := latch_move_eq c.latch v
    have hret : cycleDrive v s = testCompletion w := by
      rw [cycleDrive_of_ret v h hp, show s.cycle.latch.move v = latch from hlatch]
    clear_value latch
    rw [hret]
    refine ⟨fun hdown hl => ?_, fun hdown hl hdrive => ?_, fun hwaits => ?_⟩
    · exact (testCompletion_met (s := w) hdown hl).trans (completeCycle_from (s := s) false false rfl)
    · exact (testCompletion_noDrive (s := w) hdown hl hdrive).trans (completeCycle_from (s := s) true false rfl)
    · exact testCompletion_waits (s := w) hwaits

end Sys2Proof.Machine
end

section
/-! PROOFS. What a sample set does to an armed capture (R46 to R54). -/

namespace Sys2Proof.Machine

variable {s : State}

/-! ## The lowest point of sixteen -/

theorem filter_range_of_first {p : Nat → Bool} {k n : Nat} (hk : k < n) (hp : p k = true)
    (hfirst : ∀ i, i < k → p i = false) : ∃ l, (List.range n).filter p = k :: l := by
  have hfind : (List.range n).find? p = some k :=
    List.find?_range_eq_some.2 ⟨hp, List.mem_range.2 hk, fun j hj => by simp [hfirst j hj]⟩
  rw [← List.head?_filter] at hfind
  obtain ⟨l, hl⟩ := List.head?_eq_some_iff.1 hfind
  exact ⟨l, hl⟩

theorem filter_range_of_none {p : Nat → Bool} {n : Nat} (h : ∀ i, i < n → p i = false) :
    (List.range n).filter p = [] :=
  List.filter_eq_nil_iff.2 fun i hi => by simp [h i (List.mem_range.1 hi)]

/-! ## Bins (R50) -/

theorem setIfInBounds_getD (bins : Vector Bin 16) (j : Nat) (d : Bin) : bins.setIfInBounds j (bins.getD j d) = bins := by
  refine Vector.ext fun i hi => ?_
  rw [Vector.getElem_setIfInBounds]
  split
  · next h => subst h; simp [Vector.getD, hi]
  · rfl

/-- The bins after a set with a pitch is binned (R50). -/
def binnedAt (x : SampleSet) (r : MachineRecord) (bins : Vector Bin 16) (phi : Int) : Vector Bin 16 :=
  let point := (roundDiv (x.theta - r.thetaLo) ((r.thetaHi - r.thetaLo) / 15)).toNat
  let bin := bins.getD point { sum := 0, count := 0 }
  if -300 ≤ phi ∧ phi ≤ 300 ∧ bin.count < 65535 then
    bins.setIfInBounds point { sum := bin.sum + liftForce r.headArea r.rodArea x.ph x.pr, count := bin.count + 1 }
  else bins

theorem binSet_of_pitch {x : SampleSet} {phi : Int} (h : x.phi = some phi) (s : State) :
    binSet x s = { s with cal := { s.cal with
      thMax := maxWith s.cal.thMax x.theta, bins := binnedAt x (workingRecord s) s.cal.bins phi } } := by
  have hbins (r : MachineRecord) (bins : Vector Bin 16) (j : Nat) :
      (if (decide ((x.phi.getD 0).natAbs ≤ 300)) = true then
        bins.setIfInBounds j ((bins.getD j { sum := 0, count := 0 }).add (liftForce r.headArea r.rodArea x.ph x.pr))
      else bins) =
      if -300 ≤ phi ∧ phi ≤ 300 ∧ (bins.getD j { sum := 0, count := 0 }).count < 65535 then
        bins.setIfInBounds j
          { sum := (bins.getD j { sum := 0, count := 0 }).sum + liftForce r.headArea r.rodArea x.ph x.pr,
            count := (bins.getD j { sum := 0, count := 0 }).count + 1 }
      else bins := by
    simp only [h, Option.getD_some, decide_eq_true_eq]
    unfold Bin.add
    by_cases hlevel : phi.natAbs ≤ 300
    · rw [if_pos hlevel]
      by_cases hcount : (bins.getD j { sum := 0, count := 0 }).count < 65535
      · rw [if_pos hcount, if_pos ⟨by omega, by omega, hcount⟩]
      · rw [if_neg hcount, if_neg fun hall => hcount hall.2.2]
        exact setIfInBounds_getD bins j _
    · rw [if_neg hlevel, if_neg fun hall => hlevel (by omega)]
  exact congrArg (fun b : Vector Bin 16 => ({ s with cal := { s.cal with
    thMax := maxWith s.cal.thMax x.theta, bins := b } } : State)) (hbins _ _ _)

/-! ## Entry (R47) -/

theorem captureSet_awaitBelow (x : SampleSet) (h : s.cal.phase = .awaitBelow) : captureSet x s =
    if x.theta < (workingRecord s).thetaLo then setCapturePhase .awaitEntry s else s := by rw [captureSet, h]

theorem captureSet_awaitEntry (x : SampleSet) (h : s.cal.phase = .awaitEntry) : captureSet x s =
    if x.theta < (workingRecord s).thetaLo then s else captureEntry x s := by rw [captureSet, h]

theorem captureSet_inCapture (x : SampleSet) (h : s.cal.phase = .inCapture) :
    captureSet x s = captureWindowSet x s := by rw [captureSet, h]

/-- A capture with its input timer restarted by a set (R48). -/
def captureRestarted (s : State) : State := { s with cal := { s.cal with inputTimer := some 0 } }

/-- The tests of R48 on a set in IN_CAPTURE, in their order. -/
theorem captureWindowSet_eq (x : SampleSet) (s : State) : captureWindowSet x s =
    if x.theta < s.cal.thMax.getD x.theta - 50 ∨ x.theta < (workingRecord s).thetaLo then
      abortCapture .reverse (captureRestarted s)
    else if x.beta < (workingRecord s).betaMin - 200 then abortCapture .tilt (captureRestarted s)
    else if (workingRecord s).thetaHi ≤ x.theta then endCapture (captureRestarted s)
    else if x.phi.isNone then failCapture .noPitch (captureRestarted s)
    else binSet x (captureRestarted s) := rfl

/-! ## The window end (R51, R53, R54) -/

theorem endCapture_of_gap {k : Nat} {l : List Nat} (h : gaps s.cal.bins = k :: l) :
    endCapture s = placeMessage (.gapAtPoint k) (failCapture .gap s) := by rw [endCapture, h]

/-- A capture whose every bin is filled ends with the means of its bins (R51). -/
theorem endCapture_of_filled (h : gaps s.cal.bins = []) : endCapture s =
    if s.cal.capture = .loadedArmed then
      spanCheck (setCapture .check { s with cal := { s.cal.dropBins with candLoaded := some (binMeans s.cal.bins) } })
    else setCapture .emptyDone { s with cal := { s.cal.dropBins with candEmpty := some (binMeans s.cal.bins) } } := by
  rw [endCapture, h]

theorem spanCheck_of_small {e v : Vector Int 16} {k : Nat} {l : List Nat} (he : s.cal.candEmpty = some e)
    (hv : s.cal.candLoaded = some v) (h : smallSpans e v = k :: l) :
    spanCheck s = placeMessage (.spanAtPoint k) (failCapture .span s) := by
  unfold spanCheck
  simp only [he, hv, h]

theorem spanCheck_of_wide {e v : Vector Int 16} (he : s.cal.candEmpty = some e) (hv : s.cal.candLoaded = some v)
    (h : smallSpans e v = []) : spanCheck s = if s.cal.save.isSome then s else startSaving s := by
  unfold spanCheck
  simp only [he, hv, h]

/-- A part that has entered SAVING with the curves `c`, its MACHINE record asked for (R54). -/
def savingBegun (c : Curves) (s : State) : State :=
  { s with
    cal := { s.cal with
      working := some { workingRecord s with curves := some c }, capture := .saving, save := some .capture,
      candEmpty := none, candLoaded := none },
    journal := (s.journal.append .machine { workingRecord s with curves := some c }.body).1,
    display := { s.display with stale := true } }

theorem startSaving_eq {e v : Vector Int 16} (he : s.cal.candEmpty = some e) (hv : s.cal.candLoaded = some v) :
    let c : Curves := { empty := e, loaded := v, refLoad := s.cal.candRef }
    startSaving s =
      if (s.journal.append .machine { workingRecord s with curves := some c }.body).2 then savingBegun c s
      else captureSaveEnded false (savingBegun c s) := by
  unfold startSaving
  simp only [he, hv]
  rfl

theorem savingBegun_dropped {c : Curves} {j : Journal}
    (h : s.journal.append .machine { workingRecord s with curves := some c }.body = (j, false)) :
    captureSaveEnded false (savingBegun c s) =
      { s with
        cal := { s.cal with
          working := some { workingRecord s with curves := some c }, capture := .failed .save, save := none,
          candEmpty := none, candLoaded := none },
        journal := j, display := { s.display with stale := true } } := by
  unfold savingBegun
  rw [h]
  rfl

theorem append_taken {j : Journal} (kind : RecordKind) (body : List Word) (hstate : j.jstate ≠ .fault)
    (hroom : j.appendQueue.length < 4) : (j.append kind body).2 = true := by
  rcases append_cases j kind body with ⟨hfull, -⟩ | ⟨-, heq⟩
  · exact absurd hfull (not_or.2 ⟨hstate, not_le.2 hroom⟩)
  · rw [heq]

theorem append_dropped {j : Journal} (kind : RecordKind) (body : List Word)
    (h : j.jstate = .fault ∨ 4 ≤ j.appendQueue.length) :
    j.append kind body = ({ j with lostAppends := inc j.lostAppends }, false) := if_pos h

/-- Settles O27: by the phase of the capture, and in IN_CAPTURE by the tests of R48. -/
theorem setsAreCaptured : Obligations.SetsAreCaptured := by
  intro x s c r count cleared changed shown aborted failed point bin binned reverse tilt means
  have hbinned (phi : Int) : binnedAt x r c.bins phi = binned phi := rfl
  refine ⟨fun hphase => ?_, fun hphase => ?_, fun hphase => ?_⟩
  · rw [captureSet_awaitBelow x hphase]
    exact ⟨fun h => if_neg (not_lt.2 h), fun h => if_pos h⟩
  · rw [captureSet_awaitEntry x hphase]
    refine ⟨fun h => if_pos h, fun h hbeta => ?_, fun h hbeta hhigh => ?_, fun h hbeta hhigh => ⟨fun hphi => ?_,
      fun phi hphi => ?_⟩⟩
    · exact (if_neg (not_lt.2 h)).trans (if_pos hbeta)
    · exact (if_neg (not_lt.2 h)).trans ((if_neg (not_lt.2 hbeta)).trans (if_pos hhigh))
    · exact (if_neg (not_lt.2 h)).trans ((if_neg (not_lt.2 hbeta)).trans ((if_neg (not_le.2 hhigh)).trans
        (if_pos (by rw [hphi]; rfl))))
    · let u : State := setCapturePhase .inCapture
        { s with cal := { s.cal with thMax := some x.theta, inputTimer := some 0 } }
      have hset := binSet_of_pitch hphi u
      rw [show u.cal.thMax = some x.theta from rfl, maxWith_some, max_self] at hset
      exact (if_neg (not_lt.2 h)).trans ((if_neg (not_lt.2 hbeta)).trans ((if_neg (not_le.2 hhigh)).trans
        ((if_neg (by simp [hphi])).trans hset)))
  · rw [captureSet_inCapture x hphase, captureWindowSet_eq]
    refine ⟨fun h => if_pos h, fun h htilt => (if_neg h).trans (if_pos htilt), fun h htilt hhigh => ?_,
      fun h htilt hhigh => ?_⟩
    · refine ⟨fun hphi => ?_, fun phi top hphi htop => ?_⟩
      · exact (if_neg h).trans ((if_neg htilt).trans ((if_neg (not_le.2 hhigh)).trans (if_pos (by rw [hphi]; rfl))))
      · have hset := binSet_of_pitch hphi (captureRestarted s)
        rw [show (captureRestarted s).cal.thMax = some top from htop, maxWith_some] at hset
        exact (if_neg h).trans ((if_neg htilt).trans ((if_neg (not_le.2 hhigh)).trans
          ((if_neg (by simp [hphi])).trans hset)))
    · let u := captureRestarted s
      have hend : captureWindowSet x s = endCapture u :=
        (if_neg h).trans ((if_neg htilt).trans (if_pos hhigh))
      rw [← captureWindowSet_eq, hend]
      refine ⟨fun k hk hcount hfirst => ?_, fun hfilled => ?_⟩
      · obtain ⟨l, hl⟩ := filter_range_of_first (p := fun k => decide (count k < 2)) hk (decide_eq_true hcount)
          fun i hi => decide_eq_false (not_lt.2 (hfirst i hi))
        exact endCapture_of_gap (s := u) hl
      · have hgaps : gaps u.cal.bins = [] :=
          filter_range_of_none fun i hi => decide_eq_false (not_lt.2 (hfilled i hi))
        refine ⟨fun hcap => ?_, fun e hcap he => ?_⟩
        · have hempty : ¬u.cal.capture = .loadedArmed := by
            change ¬s.cal.capture = .loadedArmed
            rw [show s.cal.capture = .emptyArmed from hcap]
            decide
          exact (endCapture_of_filled (s := u) hgaps).trans (if_neg hempty)
        · let w : State := setCapture .check { u with cal := { u.cal.dropBins with candLoaded := some means } }
          have hcheck : endCapture u = spanCheck w := (endCapture_of_filled (s := u) hgaps).trans (if_pos hcap)
          rw [hcheck]
          refine ⟨fun k hk hsmall hfirst => ?_, fun hwide => ?_⟩
          · obtain ⟨l, hl⟩ := filter_range_of_first (p := fun k => decide (means.getD k 0 - e.getD k 0 < leastSpan)) hk
              (decide_eq_true hsmall) fun i hi => decide_eq_false (not_lt.2 (hfirst i hi))
            exact spanCheck_of_small (s := w) he rfl hl
          · have hspans : smallSpans e means = [] :=
              filter_range_of_none fun i hi => decide_eq_false (not_lt.2 (hwide i hi))
            have hspan := spanCheck_of_wide (s := w) he rfl hspans
            intro record saving
            have hstart := startSaving_eq (s := w) he rfl
            have hfree (hsave : c.save = none) : ¬w.cal.save.isSome = true := by
              change ¬s.cal.save.isSome = true
              rw [show s.cal.save = none from hsave]
              exact Bool.false_ne_true
            refine ⟨fun hsave => ?_, fun hsave hstate hroom => ?_, fun hsave hfull => ?_⟩
            · exact hspan.trans (if_pos hsave)
            · refine (hspan.trans (if_neg (hfree hsave))).trans (hstart.trans (if_pos ?_))
              exact append_taken _ _ hstate hroom
            · have hdropped := append_dropped .machine record.body hfull
              refine (hspan.trans (if_neg (hfree hsave))).trans (hstart.trans ((if_neg ?_).trans ?_))
              · change ¬(s.journal.append .machine record.body).2 = true
                rw [hdropped]
                exact Bool.false_ne_true
              · refine (savingBegun_dropped (s := w) (c := { empty := e, loaded := means, refLoad := c.candRef })
                  hdropped).trans ?_
                dsimp only [saving, cleared]
                rw [hsave]
                rfl

end Sys2Proof.Machine
end

section
/-! PROOFS. The sectors, the places of records and the array's choice of work (R188 to R192). -/

namespace Sys2Proof.Machine

variable {j : Journal} {n m a : Nat}

/-! ## Sectors (R189) -/

theorem setSector_sector_self (x : SectorState) (hn : n < 4) : (j.setSector n x).sector n = x := by
  simp [Journal.sector, Journal.setSector, Vector.getD, hn]

theorem setSector_sector_of_ne (x : SectorState) (h : m ≠ n) : (j.setSector n x).sector m = j.sector m := by
  simp [Journal.sector, Journal.setSector, Vector.getD, Ne.symm h]

theorem setSector_sector (x : SectorState) (hm : m < 4) :
    (j.setSector n x).sector m = if m = n then x else j.sector m := by
  split
  · next h => rw [← h, setSector_sector_self x hm]
  · next h => exact setSector_sector_of_ne x h

/-- The four sectors are the numbers below 4. -/
theorem mem_sectors : n ∈ [0, 1, 2, 3] ↔ n < 4 := by
  simp only [List.mem_cons, List.not_mem_nil, or_false]
  omega

theorem active_spec (h : j.active = some a) : j.sector a = .active ∧ a < 4 :=
  ⟨by simpa using List.find?_some h, mem_sectors.1 (List.mem_of_find?_eq_some h)⟩

theorem active_eq_none_iff : j.active = none ↔ ∀ n, n < 4 → j.sector n ≠ .active := by
  simp only [Journal.active, List.find?_eq_none, mem_sectors, beq_iff_eq]

theorem anyErasing_iff : j.anyErasing = true ↔ ∃ n, n < 4 ∧ j.sector n = .erasing := by
  simp only [Journal.anyErasing, List.any_eq_true, mem_sectors, beq_iff_eq]

/-- The rotation after any sector goes through all four. -/
theorem mem_rotationAfter : m ∈ rotationAfter n ↔ m < 4 := by
  simp only [rotationAfter, List.mem_cons, List.not_mem_nil, or_false]
  omega

/-! ## Places (R191) -/

theorem place_of_active {len : Nat} (h : j.active = some a) : j.place len =
    if len ≤ 1024 - j.fill then some (a, j.fill)
    else match j.nextSector a with
      | some n => if j.sector n = .erased then some (n, 0) else none
      | none => none := by
  unfold Journal.place
  rw [h] <;> rfl

theorem place_of_none {len : Nat} (h : j.active = none) : j.place len =
    ((rotationAfter j.lastActive).find? (fun n => j.sector n == .erased)).map (fun n => (n, 0)) := by
  unfold Journal.place
  rw [h]

/-- A record is placed in the ACTIVE sector or in an ERASED one. -/
theorem place_sector {len : Nat} {p : Nat × Nat} (h : j.place len = some p) :
    p.1 < 4 ∧ (j.sector p.1 = .active ∨ j.sector p.1 = .erased) := by
  cases ha : j.active with
  | some a =>
    rw [place_of_active ha] at h
    split at h
    · cases h
      obtain ⟨hactive, hlt⟩ := active_spec ha
      exact ⟨hlt, .inl hactive⟩
    · cases hn : j.nextSector a with
      | none => rw [hn] at h; cases h
      | some n =>
        rw [hn] at h
        by_cases he : j.sector n = .erased
        · obtain rfl : (n, 0) = p := by simpa [he] using h
          exact ⟨mem_rotationAfter.1 (List.mem_of_find?_eq_some hn), .inr he⟩
        · simp [he] at h
  | none =>
    rw [place_of_none ha] at h
    obtain ⟨n, hn, rfl⟩ := Option.map_eq_some_iff.1 h
    exact ⟨mem_rotationAfter.1 (List.mem_of_find?_eq_some hn), .inr (by simpa using List.find?_some hn)⟩

/-! ## A record begun (R188, R191) -/

theorem activate_of_active (h : j.active = some n) : j.activate n = j := if_pos h

theorem activate_fields_of_other (h : j.active ≠ some n) : (j.activate n).fill = 0 ∧ (j.activate n).lastActive = n ∧
    (j.activate n).mark = false := by
  rw [Journal.activate, if_neg h]
  exact ⟨rfl, rfl, rfl⟩

/-- The sector a record enters is ACTIVE from then on, the former one FULL. -/
theorem activate_sector_of_other (h : j.active ≠ some n) (hm : m < 4) : (j.activate n).sector m =
    if m = n then .active else if j.active = some m then .full else j.sector m := by
  rw [Journal.activate, if_neg h]
  change ((match j.active with
    | some a => j.setSector a .full
    | none => j).setSector n .active).sector m = _
  rw [setSector_sector _ hm]
  refine if_congr Iff.rfl rfl ?_
  cases ha : j.active with
  | none => rfl
  | some a =>
    dsimp only
    rw [setSector_sector _ hm]
    exact if_congr (by simp [eq_comm]) rfl rfl

/-- What making a sector ACTIVE leaves. -/
theorem activate_eq (j : Journal) (n : Nat) : j.activate n = { j with
    sectors := (j.activate n).sectors, fill := (j.activate n).fill, lastActive := (j.activate n).lastActive,
    mark := (j.activate n).mark } := by
  unfold Journal.activate
  split
  · rfl
  · cases j.active <;> rfl

/-- A record begun, over the fields that making its sector ACTIVE may move. -/
theorem beginProgram_eq (fromCarry : Bool) (kind : RecordKind) (body : List Word) (taken : Option Nat)
    (p : Nat × Nat) : j.beginProgram fromCarry kind body taken p = { j with
      sectors := (j.activate p.1).sectors, fill := (j.activate p.1).fill, lastActive := (j.activate p.1).lastActive,
      mark := (j.activate p.1).mark,
      nextSeq := if taken.isSome then j.nextSeq else satAdd limit32 j.nextSeq 1,
      carry := match fromCarry, j.carry with
        | true, c :: rest => { c with seq := some (taken.getD j.nextSeq) } :: rest
        | _, l => l,
      appendQueue := match fromCarry, j.appendQueue with
        | false, q :: rest => { q with seq := some (taken.getD j.nextSeq) } :: rest
        | _, l => l,
      job := some { fromCarry := fromCarry, sector := p.1, addr := p.2, kind := kind, seq := taken.getD j.nextSeq,
                    words := recordWords kind (taken.getD j.nextSeq) body },
      op := if j.op = .erasing ∨ j.op = .eraseSuspended then .eraseSuspended else .programming } := by
  have hadvance : j.advanceSeq.activate p.1 = { j.activate p.1 with nextSeq := satAdd limit32 j.nextSeq 1 } := by
    unfold Journal.activate
    rw [show j.advanceSeq.active = j.active from rfl]
    split
    · rfl
    · cases j.active <;> rfl
  unfold Journal.beginProgram
  cases taken with
  | some seq =>
    dsimp only [Option.isSome_some]
    rw [if_pos rfl, activate_eq j p.1]
    rfl
  | none =>
    dsimp only [Option.isSome_none]
    rw [if_neg Bool.false_ne_true, hadvance, activate_eq j p.1]
    rfl

/-! ## The choice of work (R192) -/

theorem busy_iff : j.busy = true ↔ j.job.isSome = true ∨ j.serving.isSome = true := by simp [Journal.busy]

theorem not_busy (hjob : j.job = none) (hserving : j.serving = none) : ¬j.busy = true := by simp [Journal.busy, *]

theorem pump_of_busy (h : j.busy = true) : j.pump = j := if_pos h

theorem pump_of_carry {c : CarryCopy} {p : Nat × Nat} (hfree : ¬j.busy = true) (h : j.carryPlace = some (c, p)) :
    j.pump = j.beginProgram true c.kind c.body c.seq p := by
  unfold Journal.pump
  rw [if_neg hfree, h]

theorem pump_of_append {q : AppendRequest} {p : Nat × Nat} (hfree : ¬j.busy = true) (hcarry : j.carryPlace = none)
    (h : j.appendPlace = some (q, p)) : j.pump = j.beginProgram false q.kind q.body q.seq p := by
  unfold Journal.pump
  rw [if_neg hfree, hcarry, h]

theorem pump_of_read {r : Nat} {rest : List Nat} (hfree : ¬j.busy = true) (hcarry : j.carryPlace = none)
    (happend : j.appendPlace = none) (h : j.readQueue = r :: rest) : j.pump = { j with
      serving := some r, readQueue := rest,
      op := if j.op = .erasing ∨ j.op = .eraseSuspended then .eraseSuspended else .idle } := by
  unfold Journal.pump
  rw [if_neg hfree, hcarry, happend, h]

theorem pump_of_none (hfree : ¬j.busy = true) (hcarry : j.carryPlace = none) (happend : j.appendPlace = none)
    (h : j.readQueue = []) : j.pump = { j with op := if j.eraseSector.isSome then .erasing else .idle } := by
  unfold Journal.pump
  rw [if_neg hfree, hcarry, happend, h]

theorem carryPlace_eq (j : Journal) :
    j.carryPlace = j.carry.head?.bind (fun c => (j.place (c.body.length + 4)).map (fun p => (c, p))) := by
  unfold Journal.carryPlace
  cases j.carry <;> rfl

theorem appendPlace_eq (j : Journal) :
    j.appendPlace = j.appendQueue.head?.bind (fun q => (j.place (q.body.length + 4)).map (fun p => (q, p))) := by
  unfold Journal.appendPlace
  cases j.appendQueue <;> rfl

/-- What is placed is the front of its list. -/
theorem head_of_placed {α : Type} {l : List α} {f : α → Option (Nat × Nat)} {x : α} {p : Nat × Nat}
    (h : l.head?.bind (fun c => (f c).map (fun p => (c, p))) = some (x, p)) : l.head? = some x := by
  obtain ⟨c, hc, hp⟩ := Option.bind_eq_some_iff.1 h
  obtain ⟨q, -, hq⟩ := Option.map_eq_some_iff.1 hp
  cases hq
  exact hc

/-- What a record begun takes and leaves, as O51 states it. -/
theorem beginProgram_began (fromCarry : Bool) (kind : RecordKind) (body : List Word) (taken : Option Nat)
    (sector word : Nat) :
    let t := j.beginProgram fromCarry kind body taken (sector, word)
    t.job = some { fromCarry := fromCarry, sector := sector, addr := word, kind := kind,
                   seq := taken.getD j.nextSeq, words := recordWords kind (taken.getD j.nextSeq) body } ∧
      t.nextSeq = (if taken.isSome then j.nextSeq else min 4294967295 (j.nextSeq + 1)) ∧
      t.op = (if j.op = .erasing ∨ j.op = .eraseSuspended then .eraseSuspended else .programming) ∧
      t.store = j.store ∧ t.readable = j.readable ∧ t.readQueue = j.readQueue ∧ t.eraseSector = j.eraseSector ∧
      t.target = j.target ∧
      (j.active = some sector → t.sectors = j.sectors ∧ t.fill = j.fill ∧ t.mark = j.mark) ∧
      (j.active ≠ some sector → t.fill = 0 ∧ t.lastActive = sector ∧ t.mark = false ∧
        ∀ n, n < 4 → t.sector n =
          if n = sector then .active else if j.active = some n then .full else j.sector n) := by
  intro t
  have ht : t = _ := beginProgram_eq fromCarry kind body taken (sector, word)
  rw [ht]
  refine ⟨rfl, rfl, rfl, rfl, rfl, rfl, rfl, rfl, fun hactive => ?_, fun hother => ?_⟩
  · dsimp only
    rw [activate_of_active hactive]
    exact ⟨rfl, rfl, rfl⟩
  · obtain ⟨hfill, hlast, hmark⟩ := activate_fields_of_other hother
    exact ⟨hfill, hlast, hmark, fun n hn => activate_sector_of_other hother hn⟩

/-- Settles O51: the places of R191, and the choice of R192 with what a record begun takes. -/
theorem arrayTakesWork : Obligations.ArrayTakesWork := by
  intro j
  refine ⟨fun kind body => ⟨fun h => append_dropped kind body h, fun hstate hroom => ?_⟩, fun len => ⟨?_, ?_, ?_⟩, ?_⟩
  · exact if_neg (not_or.2 ⟨hstate, not_le.2 hroom⟩)
  · intro a ha
    rw [place_of_active ha]
    refine ⟨fun h => if_pos h, fun n h hnext => ?_⟩
    rw [if_neg (not_le.2 h), hnext]
  · intro hnone front n back hrotation hfront herased
    rw [place_of_none hnone, List.find?_eq_some_iff_append.2
      ⟨by simpa using herased, front, back, hrotation, fun m hm => by simpa using hfront m hm⟩]
    rfl
  · intro hnone h
    rw [place_of_none hnone, List.find?_eq_none.2 fun m hm => by simpa using h m (mem_rotationAfter.1 hm)]
    rfl
  · intro copy request holding t began
    have hcopy : j.carryPlace = copy := carryPlace_eq j
    have hrequest : j.appendPlace = request := appendPlace_eq j
    refine ⟨fun h => pump_of_busy (busy_iff.2 h), fun hjob hserving => ?_⟩
    have hfree := not_busy hjob hserving
    refine ⟨fun c sector word h => ?_, fun q sector word hnone h => ?_, fun r rest hnone hnone' h => ?_,
      fun hnone hnone' h => ?_⟩
    · have ht : j.pump = _ := pump_of_carry hfree (hcopy.trans h)
      obtain ⟨l, hl⟩ := List.head?_eq_some_iff.1 (head_of_placed h)
      refine ⟨?_, ?_, ?_⟩
      · dsimp only [began, t]
        rw [ht]
        exact beginProgram_began true c.kind c.body c.seq sector word
      · dsimp only [t]
        rw [ht, beginProgram_eq]
      · dsimp only [t]
        rw [ht, beginProgram_eq, hl]
        rfl
    · have ht : j.pump = _ := pump_of_append hfree (hcopy.trans hnone) (hrequest.trans h)
      obtain ⟨l, hl⟩ := List.head?_eq_some_iff.1 (head_of_placed h)
      refine ⟨?_, ?_, ?_⟩
      · dsimp only [began, t]
        rw [ht]
        exact beginProgram_began false q.kind q.body q.seq sector word
      · dsimp only [t]
        rw [ht, beginProgram_eq]
      · dsimp only [t]
        rw [ht, beginProgram_eq, hl]
        rfl
    · exact pump_of_read hfree (hcopy.trans hnone) (hrequest.trans hnone') h
    · exact pump_of_none hfree (hcopy.trans hnone) (hrequest.trans hnone') h

end Sys2Proof.Machine
end

section
/-! PROOFS. The journal state, erase-ahead and carry-forward (R193, R194, R197). -/

namespace Sys2Proof.Machine

variable {j : Journal} {n m a : Nat}

/-! ## The readable set (R189) -/

/-- The highest record of a list: none for an empty list, and else one of the list that no other passes. -/
theorem highest_spec : ∀ {l : List RecordRef} {r : RecordRef}, highest l = some r → r ∈ l ∧ ∀ q ∈ l, q.seq ≤ r.seq
  | [], _, h => by cases h
  | x :: rest, r, h => by
    unfold highest at h
    cases hrest : highest rest with
    | none =>
      have hnil : rest = [] := by
        cases rest with
        | nil => rfl
        | cons y l =>
          unfold highest at hrest
          split at hrest
          · cases hrest
          · split at hrest <;> cases hrest
      rw [hrest] at h
      obtain rfl : x = r := Option.some.inj h
      simp [hnil]
    | some t =>
      obtain ⟨ht, hall⟩ := highest_spec hrest
      rw [hrest] at h
      dsimp only at h
      split at h
      · next hlt =>
        obtain rfl : x = r := Option.some.inj h
        refine ⟨List.mem_cons_self, fun q hq => ?_⟩
        rcases List.mem_cons.1 hq with rfl | hq
        · exact le_rfl
        · exact (hall q hq).trans hlt.le
      · next hge =>
        obtain rfl : t = r := Option.some.inj h
        refine ⟨List.mem_cons_of_mem _ ht, fun q hq => ?_⟩
        rcases List.mem_cons.1 hq with rfl | hq
        · exact not_lt.1 hge
        · exact hall q hq

/-- The highest record of those that pass a test. -/
theorem highest_filter_spec {p : RecordRef → Bool} {l : List RecordRef} {r : RecordRef}
    (h : highest (l.filter p) = some r) : r ∈ l ∧ p r = true ∧ ∀ q ∈ l, p q = true → q.seq ≤ r.seq := by
  obtain ⟨hr, hall⟩ := highest_spec h
  obtain ⟨hmem, hp⟩ := List.mem_filter.1 hr
  exact ⟨hmem, hp, fun q hq hpq => hall q (List.mem_filter.2 ⟨hq, hpq⟩)⟩

/-- The record is the latest MACHINE record or the latest shift record. -/
def Journal.Latest (j : Journal) (r : RecordRef) : Prop := j.latestMachine = some r ∨ j.latestShift = some r

theorem holdsLatest_iff : j.holdsLatest n = true ↔ ∃ r, j.Latest r ∧ r.sector = n := by
  simp only [Journal.holdsLatest, Bool.or_eq_true, Option.any_eq_true, beq_iff_eq, Journal.Latest, or_and_right,
    exists_or]

/-! ## The journal state (R197) -/

/-- The condition of FAULT, over the four sectors. -/
theorem faultCondition_iff : j.faultCondition = true ↔
    ([0, 1, 2, 3].filter (fun n => j.sector n != .faulted)).length < 2 ∨
      ((∀ n, n < 4 → j.sector n ≠ .active ∧ j.sector n ≠ .erased ∧ j.sector n ≠ .erasing) ∧
        ∀ n, n < 4 → j.sector n = .full → ∃ r, j.Latest r ∧ r.sector = n) := by
  have hnone : ([0, 1, 2, 3].all fun n => j.sector n != .active && j.sector n != .erased && j.sector n != .erasing) = true ↔
      ∀ n, n < 4 → j.sector n ≠ .active ∧ j.sector n ≠ .erased ∧ j.sector n ≠ .erasing := by
    simp only [List.all_eq_true, mem_sectors, Bool.and_eq_true, bne_iff_ne, and_assoc]
  have hkept : ([0, 1, 2, 3].all fun n => j.sector n != .full || j.holdsLatest n) = true ↔
      ∀ n, n < 4 → j.sector n = .full → ∃ r, j.Latest r ∧ r.sector = n := by
    simp only [List.all_eq_true, mem_sectors, Bool.or_eq_true, bne_iff_ne, ← imp_iff_not_or, holdsLatest_iff]
  rw [Journal.faultCondition, Bool.or_eq_true, decide_eq_true_iff, Bool.and_eq_true, hnone, hkept]

theorem judge_of_fault (h : j.jstate = .fault) : j.judge = j := if_pos h

theorem judge_of_condition (h : j.jstate ≠ .fault) (hc : j.faultCondition = true) : j.judge = { j with
    jstate := .fault, lostAppends := satAdd limit16 j.lostAppends j.appendQueue.length,
    appendQueue := [], carry := [], target := none } := (if_neg h).trans (if_pos hc)

theorem judge_of_faulted (h : j.jstate ≠ .fault) (hc : ¬j.faultCondition = true) (hn : n < 4)
    (hfaulted : j.sector n = .faulted) : j.judge = { j with jstate := .degraded } := by
  refine (if_neg h).trans ((if_neg hc).trans (if_pos ?_))
  exact List.any_eq_true.2 ⟨n, mem_sectors.2 hn, by simp [hfaulted]⟩

theorem judge_of_sound (h : j.jstate ≠ .fault) (hc : ¬j.faultCondition = true)
    (hsound : ∀ n, n < 4 → j.sector n ≠ .faulted) : j.judge = j := by
  refine (if_neg h).trans ((if_neg hc).trans (if_neg ?_))
  simpa only [List.any_eq_true, mem_sectors, beq_iff_eq, not_exists, not_and] using hsound

/-! ## Erase-ahead (R193, R194) -/

/-- With no ACTIVE sector a sector is of use where it is ERASED, or FULL without either latest record. -/
def Journal.Usable (j : Journal) (n : Nat) : Prop :=
  j.sector n = .erased ∨ (j.sector n = .full ∧ j.holdsLatest n = false)

theorem usable_iff : (j.sector n == .erased || (j.sector n == .full && !j.holdsLatest n)) = true ↔ j.Usable n := by
  simp [Journal.Usable]

theorem eraseAheadNoActive_of_usable {front back : List Nat} (h : rotationAfter j.lastActive = front ++ n :: back)
    (hfront : ∀ i ∈ front, ¬j.Usable i) (hn : j.Usable n) :
    j.eraseAheadNoActive = if j.sector n = .erased then j else j.enterErasing n := by
  have hfind : (rotationAfter j.lastActive).find? (fun n =>
      j.sector n == .erased || (j.sector n == .full && !j.holdsLatest n)) = some n := by
    refine List.find?_eq_some_iff_append.2 ⟨usable_iff.2 hn, front, back, h, fun i hi => ?_⟩
    rw [Bool.not_eq_true', Bool.eq_false_iff]
    exact fun hu => hfront i hi (usable_iff.1 hu)
  unfold Journal.eraseAheadNoActive
  rw [hfind]

theorem eraseAheadNoActive_of_none (h : ∀ n, n < 4 → ¬j.Usable n) : j.eraseAheadNoActive = j.judge := by
  unfold Journal.eraseAheadNoActive
  rw [List.find?_eq_none.2 fun n hn hu => h n (mem_rotationAfter.1 hn) (usable_iff.1 hu)]

theorem beginEraseAhead_of_erasing (h : j.anyErasing = true) : j.beginEraseAhead = { j with deferred := true } := if_pos h

theorem beginEraseAhead_of_none (h : j.anyErasing = false) (ha : j.active = none) :
    j.beginEraseAhead = Journal.eraseAheadNoActive { j with mark := true, deferred := false } := by
  unfold Journal.beginEraseAhead
  rw [if_neg (by simp [h])]
  dsimp only
  rw [show Journal.active { j with mark := true, deferred := false } = none from ha]

/-- Erase-ahead with an ACTIVE sector, by the state of its target. -/
theorem beginEraseAhead_of_active (h : j.anyErasing = false) (ha : j.active = some a) (hn : j.nextSector a = some n) :
    let k : Journal := { j with mark := true, deferred := false }
    j.beginEraseAhead = match j.sector n with
      | .erased => k
      | .full =>
        if copyWords (j.carry ++ j.newCopies n) ≤ 1024 - j.fill then
          if (j.carry ++ j.newCopies n).isEmpty then k.enterErasing n
          else { k with carry := j.carry ++ j.newCopies n, target := some n }
        else (k.setSector a .full).eraseAheadNoActive
      | .active | .erasing | .faulted => k.judge := by
  intro k
  unfold Journal.beginEraseAhead
  rw [if_neg (by simp [h])]
  dsimp only
  rw [show Journal.active { j with mark := true, deferred := false } = some a from ha]
  dsimp only
  rw [show Journal.nextSector { j with mark := true, deferred := false } a = some n from hn]
  rfl

/-! ## Carry-forward (R194) -/

/-- A record that a FULL target needs carried forward is one of the latest ones that lies in it. -/
theorem mem_needed {r : RecordRef} : r ∈ j.needed n ↔ j.Latest r ∧ r.sector = n := by
  have hlists : r ∈ j.needed n ↔ r ∈ j.latestMachine.toList.filter (fun r => r.sector == n) ∨
      r ∈ j.latestShift.toList.filter (fun r => r.sector == n) := by
    unfold Journal.needed
    dsimp only
    split
    · next a b hm hs =>
      rw [hm, hs]
      split <;> simp [or_comm]
    · rw [List.mem_append]
  rw [hlists]
  simp only [List.mem_filter, Option.mem_toList, beq_iff_eq, Journal.Latest, or_and_right]

theorem length_filter_toList {α : Type} (o : Option α) (p : α → Bool) : (o.toList.filter p).length ≤ 1 :=
  (List.length_filter_le _ _).trans (by cases o <;> simp)

/-- At most the two latest records are needed, in the order of their numbers. -/
theorem needed_sorted (j : Journal) (n : Nat) :
    (j.needed n).length ≤ 2 ∧ (j.needed n).Pairwise (fun q r => q.seq ≤ r.seq) := by
  have hm := length_filter_toList j.latestMachine (fun r => r.sector == n)
  have hs := length_filter_toList j.latestShift (fun r => r.sector == n)
  unfold Journal.needed
  dsimp only
  split
  · split
    · next h => simpa using h.le
    · next h => simpa using not_lt.1 h
  · next hboth =>
    revert hm hs hboth
    generalize j.latestMachine.toList.filter (fun r => r.sector == n) = l
    generalize j.latestShift.toList.filter (fun r => r.sector == n) = k
    intro hl hk hboth
    match l, k with
    | [], [] => simp
    | [], [b] => simp
    | [a], [] => simp
    | [a], [b] => exact absurd rfl (hboth a b rfl)
    | _ :: _ :: _, _ => simp at hl
    | _, _ :: _ :: _ => simp at hk

theorem mem_newCopies {c : CarryCopy} : c ∈ j.newCopies n ↔
    ∃ r, (j.Latest r ∧ r.sector = n) ∧ (∀ d ∈ j.carry, d.original ≠ r.seq) ∧ j.copyOf r = c := by
  simp only [Journal.newCopies, List.mem_map, List.mem_filter, mem_needed, Bool.not_eq_true', List.any_eq_false,
    beq_iff_eq, and_assoc]

/-- The fold over the truck records adds up the figures of those that are later and of the shift. -/
theorem foldl_trucks (j : Journal) (shift seq : Nat) : ∀ (l : List RecordRef) (acc : Nat × Nat × Nat),
    let later := l.filter (fun q =>
      q.kind == .truckClosed && decide (seq < q.seq) && (truckClosedFigures (j.bodyOf q)).1 == shift)
    let figures := later.map (fun q => (truckClosedFigures (j.bodyOf q)).2)
    l.foldl
      (fun acc r =>
        if r.kind = .truckClosed ∧ seq < r.seq then
          let (s, passes, total) := truckClosedFigures (j.bodyOf r)
          if s = shift then (acc.1 + passes, acc.2.1 + 1, acc.2.2 + total) else acc
        else acc)
      acc =
      (acc.1 + (figures.map (fun x => x.1)).sum, acc.2.1 + later.length, acc.2.2 + (figures.map (fun x => x.2)).sum)
  | [], acc => by simp
  | r :: rest, acc => by
    dsimp only
    rw [List.foldl_cons, foldl_trucks j shift seq rest, List.filter_cons]
    by_cases hlater : r.kind = .truckClosed ∧ seq < r.seq
    · by_cases hshift : (truckClosedFigures (j.bodyOf r)).1 = shift
      · simp [hlater, hshift, Nat.add_assoc, Nat.add_comm 1]
      · simp [hlater, hshift]
    · rw [if_neg hlater, if_neg (by simpa using fun hk hs _ => hlater ⟨hk, hs⟩)]

/-- The truck records of a shift above a number: the sum of their passes, how many, and the sum of their kilograms. -/
theorem trucksAbove_eq (j : Journal) (shift seq : Nat) :
    let later := j.readable.filter (fun q =>
      q.kind == .truckClosed && decide (seq < q.seq) && (truckClosedFigures (j.bodyOf q)).1 == shift)
    let figures := later.map (fun q => (truckClosedFigures (j.bodyOf q)).2)
    j.trucksAbove shift seq =
      ((figures.map (fun x => x.1)).sum, later.length, (figures.map (fun x => x.2)).sum) := by
  intro later figures
  have h := foldl_trucks j shift seq j.readable (0, 0, 0)
  simp only [Nat.zero_add] at h
  exact h

theorem copyOf_snapshot {r : RecordRef} (h : r.kind = .shiftSnapshot) : (j.copyOf r).body =
    ((ShiftFigures.ofBody (j.bodyOf r)).withTrucks
      (j.trucksAbove (ShiftFigures.ofBody (j.bodyOf r)).shift r.seq)).body (long (j.bodyOf r) 16).toNat := if_pos h

theorem copyOf_plain {r : RecordRef} (h : r.kind ≠ .shiftSnapshot) : (j.copyOf r).body = j.bodyOf r := if_neg h

/-- Settles O52: the target of erase-ahead by its state, the copies listed, and the judging of the state. -/
theorem eraseAheadCarriesForward : Obligations.EraseAheadCarriesForward := by
  intro j m erasing usable noActive latest judged faulted fault
  have hnoActive (k : Journal) : noActive k k.eraseAheadNoActive :=
    ⟨fun front n back h hfront hn => eraseAheadNoActive_of_usable h hfront hn, fun h => eraseAheadNoActive_of_none h⟩
  refine ⟨beginEraseAhead_of_erasing, fun hquiet => ⟨fun ha => ?_, fun a n ha hn => ?_⟩, fun n => ⟨fun c hc => ?_,
    fun r hr hsector => ?_, ?_, ?_⟩, fun r hr => ?_, fun r hr => highest_filter_spec hr, judge_of_fault,
    fun hstate hc => judge_of_condition hstate (faultCondition_iff.2 hc), fun hstate hc => ?_⟩
  · rw [beginEraseAhead_of_none hquiet ha]
    exact hnoActive m
  · rw [beginEraseAhead_of_active hquiet ha hn]
    refine ⟨fun h => by rw [h], fun h => by rw [h], fun h => ?_⟩
    rw [h]
    intro carry
    refine ⟨fun hfits hempty => ?_, fun hfits hcopies => ?_, fun hover => ?_⟩
    · exact (if_pos hfits).trans (if_pos (List.isEmpty_iff.2 hempty))
    · exact (if_pos hfits).trans (if_neg fun h => hcopies (List.isEmpty_iff.1 h))
    · dsimp only
      rw [if_neg (not_le.2 hover)]
      exact hnoActive _
  · obtain ⟨r, hr, hnew, rfl⟩ := mem_newCopies.1 hc
    refine ⟨rfl, hnew, r, hr.1, hr.2, rfl, rfl, fun h => copyOf_plain h, fun h => ?_⟩
    rw [copyOf_snapshot h]
    intro f later figures
    rw [trucksAbove_eq]
    rfl
  · by_cases hcarried : ∃ c ∈ j.carry, c.original = r.seq
    · obtain ⟨c, hc, heq⟩ := hcarried
      exact ⟨c, List.mem_append_left _ hc, heq⟩
    · refine ⟨j.copyOf r, List.mem_append_right _ (mem_newCopies.2 ⟨r, ⟨hr, hsector⟩, ?_, rfl⟩), rfl⟩
      exact fun d hd heq => hcarried ⟨d, hd, heq⟩
  · rw [Journal.newCopies, List.length_map]
    exact (List.length_filter_le _ _).trans (needed_sorted j n).1
  · rw [Journal.newCopies, List.pairwise_map]
    exact (needed_sorted j n).2.filter _
  · obtain ⟨hmem, hkind, hall⟩ := highest_filter_spec hr
    exact ⟨hmem, beq_iff_eq.1 hkind, fun q hq hk => hall q hq (beq_iff_eq.2 hk)⟩
  · have hfault : ¬j.faultCondition = true := fun h => hc (faultCondition_iff.1 h)
    exact ⟨fun ⟨n, hn, hf⟩ => judge_of_faulted hstate hfault hn hf, fun h => judge_of_sound hstate hfault h⟩

end Sys2Proof.Machine
end

section
/-! PROOFS. How a failed program and an erase end (R186, R195, R196, R197). -/

namespace Sys2Proof.Machine

variable {j k l : Journal} {m : List StoreCell} {n a : Nat} {s t u : State}

/-! ## The words of a failed program (R186, R196) -/

/-- No program of a run can fail exactly where every word of it reads its value already. -/
theorem failable_eq_nil_iff : ∀ {ws : List Word} {a : Nat},
    Store.failable m a ws = [] ↔ ∀ k, k < ws.length → Store.read m (a + k) = ws.getD k 0
  | [], _ => by simp [Store.failable]
  | w :: ws, a => by
    have htail : (∀ k, k < (w :: ws).length → Store.read m (a + k) = (w :: ws).getD k 0) ↔
        Store.read m a = w ∧ ∀ k, k < ws.length → Store.read m (a + 1 + k) = ws.getD k 0 := by
      rw [List.length_cons, Nat.forall_lt_succ_left]
      simp [Nat.add_assoc, Nat.add_comm 1]
    rw [htail, ← failable_eq_nil_iff, Store.failable]
    by_cases heq : Store.read m a = w <;> simp [heq]

/-- A word left at the value it reads leaves the list as it is. -/
theorem write_read (h : Store.wf m) (a : Nat) : Store.write m a (Store.read m a) = m := by
  have hput : ∀ {m : List StoreCell}, Store.wf m → Store.put m a (Store.read m a) = m := by
    intro m hm
    induction m with
    | nil => rfl
    | cons c m ih =>
      obtain ⟨b, v⟩ := c
      obtain ⟨habove, ⟨hv, -⟩, hrest⟩ := Store.wf_cons.1 hm
      rw [Store.put, Store.read]
      rcases lt_trichotomy a b with hlt | rfl | hgt
      · rw [if_pos hlt, if_neg hlt.ne, if_pos (Store.read_of_above fun c hc => hlt.trans (habove c hc))]
      · rw [if_neg (lt_irrefl a), if_pos rfl, if_pos rfl, if_neg hv]
      · rw [if_neg hgt.not_gt, if_neg hgt.ne', if_neg hgt.ne', ih hrest]
  rw [Store.write, hput h, ite_self]

/-- Word programs over words that read their values already change nothing and are verified. -/
theorem program_of_read (hm : Store.wf m) : ∀ {ws : List Word} {a : Nat},
    (∀ k, k < ws.length → Store.read m (a + k) = ws.getD k 0) → Store.program m a ws = (m, true)
  | [], _, _ => rfl
  | w :: ws, a, h => by
    have hfirst : Store.read m a = w := by simpa using h 0 (by simp)
    have hrest : ∀ k, k < ws.length → Store.read m (a + 1 + k) = ws.getD k 0 := fun k hk => by
      simpa [Nat.add_assoc, Nat.add_comm 1] using h (k + 1) (by simpa using hk)
    have hsame : Store.write m a w = m := by
      rw [← hfirst]
      exact write_read hm a
    rw [Store.program, hfirst, BitVec.and_self, if_pos rfl, hsame]
    exact program_of_read hm hrest

/-- A part of a run: the words before its last are programmed, the last has kept some bits, and no other word has
changed. -/
theorem read_programPart {left : Word} : ∀ {ws : List Word} {m : List StoreCell} {a k : Nat}, Store.wf m →
    a + ws.length ≤ storeWords → k < ws.length → ∀ b,
    Store.read (Store.programPart m a ws k left) b =
      if b < a ∨ a + k < b then Store.read m b
      else if b = a + k then Store.read m b &&& (ws.getD k 0 ||| left)
      else Store.read m b &&& ws.getD (b - a) 0
  | [], _, _, _, _, _, hk, _ => by simp at hk
  | w :: ws, m, a, 0, hm, hend, _, b => by
    rw [Store.programPart, Store.read_write hm (by rw [List.length_cons] at hend; omega)]
    rcases lt_trichotomy b a with hlt | rfl | hgt
    · rw [if_neg hlt.ne, if_pos (.inl hlt)]
    · simp
    · rw [if_neg hgt.ne', if_pos (.inr hgt)]
  | w :: ws, m, a, k + 1, hm, hend, hk, b => by
    rw [List.length_cons] at hend hk
    rw [Store.programPart, read_programPart (Store.wf_write hm) (by omega) (by omega),
      Store.read_write hm (by omega), List.getD_cons_succ]
    rcases lt_trichotomy b a with hlt | rfl | hgt
    · rw [if_pos (.inl (by omega)), if_neg hlt.ne, if_pos (.inl hlt)]
    · rw [if_pos (.inl (by omega)), if_pos rfl, if_neg (by omega), if_neg (by omega), Nat.sub_self, List.getD_cons_zero]
    · rw [if_neg hgt.ne', show b - a = b - (a + 1) + 1 by omega, List.getD_cons_succ]
      exact if_congr (by omega) rfl (if_congr (by omega) rfl rfl)

/-- What a failed job leaves of the array. -/
theorem read_fail {job : ProgramJob} (free : Nat) (hm : Store.wf m) (hend : job.start + job.words.length ≤ storeWords)
    (hfail : job.failable m ≠ []) :
    ∃ k, k < job.words.length ∧ Store.read (job.fail free m) (job.start + k) ≠ job.words.getD k 0 ∧
      (∀ i, i < k → Store.read (job.fail free m) (job.start + i) = job.words.getD i 0 ∧
        Store.read m (job.start + i) &&& job.words.getD i 0 = job.words.getD i 0) ∧
      ∀ b, (∀ i, i ≤ k → b ≠ job.start + i) → Store.read (job.fail free m) b = Store.read m b := by
  have hdraw : (job.failable m).getD (Config.wordsProgrammed free % (job.failable m).length) 0 ∈ job.failable m := by
    have hlt := Nat.mod_lt (Config.wordsProgrammed free) (List.length_pos_iff.2 hfail)
    rw [List.getD_eq_getElem _ _ hlt]
    exact List.getElem_mem hlt
  obtain ⟨w, hw, hne, hbefore⟩ := Store.mem_failable hdraw
  unfold ProgramJob.fail
  dsimp only
  revert hw hne hbefore
  generalize (job.failable m).getD (Config.wordsProgrammed free % (job.failable m).length) 0 = k
  intro hw hne hbefore
  obtain ⟨hk, -⟩ := List.getElem?_eq_some_iff.1 hw
  have hvalue : job.words.getD k 0 = w := by simp [List.getD, hw]
  refine ⟨k, hk, ?_, fun i hi => ?_, fun b hb => ?_⟩
  · rw [read_programPart hm hend hk, if_neg (by omega), if_pos rfl, hvalue]
    change Store.read m (job.start + k) &&& (w ||| if _ &&& (job.words.getD k 0 ||| _) = job.words.getD k 0 then _ else _) ≠ w
    rw [hvalue]
    split
    · rw [show w ||| erasedWord = BitVec.allOnes 16 from BitVec.or_allOnes, BitVec.and_allOnes]
      exact hne
    · next hleft => exact hleft
  · have hwi : job.words[i]? = some (job.words.getD i 0) := by simp [List.getD, hi.trans hk]
    have hfits := hbefore i _ hi hwi
    refine ⟨?_, hfits⟩
    rw [read_programPart hm hend hk, if_neg (by omega), if_neg (by omega), Nat.add_sub_cancel_left, hfits]
  · have hout : b < job.start ∨ job.start + k < b := by
      by_contra hin
      exact hb (b - job.start) (by omega) (by omega)
    rw [read_programPart hm hend hk, if_pos hout]

/-! ## Work that goes on after an end of work -/

/-- What erase-ahead, the judging of the state and the choice of work keep after a failure: the faulted sectors, the
counters, a state that is not OK, and short of FAULT every request. -/
structure Journal.Onward (j k : Journal) : Prop where
  faults : ∀ n, n < 4 → j.sector n = .faulted → k.sector n = .faulted
  programFailures : k.programFailures = j.programFailures
  eraseFailures : k.eraseFailures = j.eraseFailures
  fault : j.jstate = .fault → k.jstate = .fault
  judged : j.jstate ≠ .ok → k.jstate ≠ .ok
  requests : k.jstate ≠ .fault → k.appendQueue.map (fun q => q.body) = j.appendQueue.map (fun q => q.body)

theorem Journal.Onward.trans (h : j.Onward k) (h' : k.Onward l) : j.Onward l where
  faults := fun n hn => h'.faults n hn ∘ h.faults n hn
  programFailures := h'.programFailures.trans h.programFailures
  eraseFailures := h'.eraseFailures.trans h.eraseFailures
  fault := h'.fault ∘ h.fault
  judged := h'.judged ∘ h.judged
  requests := fun hl => (h'.requests hl).trans (h.requests (hl ∘ h'.fault))

/-- Work that moves no counter and no request and leaves the journal state. -/
theorem Journal.Onward.of_sectors (hfaults : ∀ n, n < 4 → j.sector n = .faulted → k.sector n = .faulted)
    (h : (k.programFailures, k.eraseFailures, k.jstate, k.appendQueue.map (fun q => q.body)) =
      (j.programFailures, j.eraseFailures, j.jstate, j.appendQueue.map (fun q => q.body))) : j.Onward k := by
  simp only [Prod.mk.injEq] at h
  obtain ⟨hprogram, herase, hstate, hqueue⟩ := h
  exact ⟨hfaults, hprogram, herase, hstate ▸ id, hstate ▸ id, fun _ => hqueue⟩

theorem Journal.Onward.of_same (h : (k.sectors, k.programFailures, k.eraseFailures, k.jstate, k.appendQueue) =
    (j.sectors, j.programFailures, j.eraseFailures, j.jstate, j.appendQueue)) : j.Onward k := by
  simp only [Prod.mk.injEq] at h
  obtain ⟨hsectors, hprogram, herase, hstate, hqueue⟩ := h
  refine .of_sectors (fun n _ hn => ?_) (by rw [hprogram, herase, hstate, hqueue])
  rw [Journal.sector, hsectors]
  exact hn

theorem judge_onward (j : Journal) : j.Onward j.judge := by
  unfold Journal.judge
  split
  · exact .of_same rfl
  · next hstate =>
    split
    · exact ⟨fun _ _ h => h, rfl, rfl, fun _ => rfl, fun _ => by simp, fun h => absurd rfl h⟩
    · split
      · exact ⟨fun _ _ h => h, rfl, rfl, fun h => absurd h hstate, fun _ => by simp, fun _ => rfl⟩
      · exact .of_same rfl

/-- After a judging the state is not OK where a sector is FAULTED (R197). -/
theorem judge_not_ok (hn : n < 4) (h : j.sector n = .faulted) : j.judge.jstate ≠ .ok := by
  by_cases hstate : j.jstate = .fault
  · rw [judge_of_fault hstate, hstate]
    decide
  · by_cases hc : j.faultCondition = true
    · rw [judge_of_condition hstate hc]
      simp
    · rw [judge_of_faulted hstate hc hn h]
      simp

/-- A sector that is set and was not FAULTED leaves the FAULTED ones. -/
theorem setSector_onward (x : SectorState) (h : j.sector a ≠ .faulted) : j.Onward (j.setSector a x) :=
  .of_sectors (fun _ _ hf => (setSector_sector_of_ne x fun heq => h ((congrArg j.sector heq.symm).trans hf)).trans hf) rfl

theorem enterErasing_onward (h : j.sector a ≠ .faulted) : j.Onward (j.enterErasing a) :=
  (setSector_onward .erasing h).trans (.of_same rfl)

theorem eraseAheadNoActive_onward (j : Journal) : j.Onward j.eraseAheadNoActive := by
  unfold Journal.eraseAheadNoActive
  split
  · next n hn =>
    have hu : j.Usable n := usable_iff.1 (by simpa using List.find?_some hn)
    split
    · exact .of_same rfl
    · next herased => exact enterErasing_onward (by rcases hu with h | ⟨h, -⟩ <;> rw [h] <;> decide)
  · exact judge_onward j

theorem beginEraseAhead_onward (j : Journal) : j.Onward j.beginEraseAhead := by
  have hmark : j.Onward { j with mark := true, deferred := false } := .of_same rfl
  cases herasing : j.anyErasing with
  | true => rw [beginEraseAhead_of_erasing herasing]; exact .of_same rfl
  | false =>
    cases ha : j.active with
    | none => rw [beginEraseAhead_of_none herasing ha]; exact hmark.trans (eraseAheadNoActive_onward _)
    | some a =>
      obtain ⟨hactive, hlt⟩ := active_spec ha
      obtain ⟨n, hn⟩ : ∃ n, j.nextSector a = some n := by
        refine Option.isSome_iff_exists.1 (List.find?_isSome.2 ⟨a, mem_rotationAfter.2 hlt, ?_⟩)
        rw [hactive]
        decide
      rw [beginEraseAhead_of_active herasing ha hn]
      cases hs : j.sector n with
      | erased => exact hmark
      | active | erasing | faulted => exact hmark.trans (judge_onward _)
      | full =>
        dsimp only
        split
        · split
          · exact hmark.trans (enterErasing_onward (hs.trans_ne (by decide)))
          · exact .of_same rfl
        · exact (hmark.trans (setSector_onward .full (hactive.trans_ne (by decide)))).trans (eraseAheadNoActive_onward _)

theorem beginProgram_onward {p : Nat × Nat} (fromCarry : Bool) (kind : RecordKind) (body : List Word)
    (taken : Option Nat) (hp : j.sector p.1 ≠ .faulted) : j.Onward (j.beginProgram fromCarry kind body taken p) := by
  rw [beginProgram_eq]
  refine .of_sectors (fun n hn hf => ?_) ?_
  · by_cases ha : j.active = some p.1
    · rw [activate_of_active ha]
      exact hf
    · have hother : j.active ≠ some n := fun h => by
        rw [(active_spec h).1] at hf
        cases hf
      exact (activate_sector_of_other ha hn).trans
        ((if_neg fun heq => hp ((congrArg j.sector heq.symm).trans hf)).trans ((if_neg hother).trans hf))
  · cases fromCarry
    · cases hq : j.appendQueue <;> simp
    · rfl

theorem pump_onward (j : Journal) : j.Onward j.pump := by
  have hplaced {α : Type} {o : Option α} {len : α → Nat} {x : α} {p : Nat × Nat}
      (h : o.bind (fun c => (j.place (len c)).map (fun p => (c, p))) = some (x, p)) : j.sector p.1 ≠ .faulted := by
    obtain ⟨c, -, hc⟩ := Option.bind_eq_some_iff.1 h
    obtain ⟨q, hq, heq⟩ := Option.map_eq_some_iff.1 hc
    cases heq
    rcases (place_sector hq).2 with hs | hs <;> exact hs.trans_ne (by decide)
  by_cases hbusy : j.busy = true
  · rw [pump_of_busy hbusy]
    exact .of_same rfl
  · cases hcarry : j.carryPlace with
    | some cp =>
      rw [pump_of_carry hbusy hcarry]
      exact beginProgram_onward true _ _ _ (hplaced ((carryPlace_eq j).symm.trans hcarry))
    | none =>
      cases happend : j.appendPlace with
      | some qp =>
        rw [pump_of_append hbusy hcarry happend]
        exact beginProgram_onward false _ _ _ (hplaced ((appendPlace_eq j).symm.trans happend))
      | none =>
        cases hread : j.readQueue with
        | cons r rest => rw [pump_of_read hbusy hcarry happend hread]; exact .of_same rfl
        | nil => rw [pump_of_none hbusy hcarry happend hread]; exact .of_same rfl

/-! ## The target of an erase-ahead with no ACTIVE sector -/

theorem judge_target (h : j.target = none) : j.judge.target = none := by
  unfold Journal.judge
  split_ifs
  · exact h
  · rfl
  · exact h
  · exact h

theorem eraseAheadNoActive_target (h : j.target = none) : j.eraseAheadNoActive.target = none := by
  unfold Journal.eraseAheadNoActive
  split
  · split
    · exact h
    · rfl
  · exact judge_target h

theorem beginEraseAhead_target (h : j.target = none) (ha : j.active = none) : j.beginEraseAhead.target = none := by
  cases herasing : j.anyErasing with
  | true => rw [beginEraseAhead_of_erasing herasing]; exact h
  | false => rw [beginEraseAhead_of_none herasing ha]; exact eraseAheadNoActive_target h

theorem pump_target (j : Journal) : j.pump.target = j.target := by
  unfold Journal.pump
  repeat' split
  all_goals simp only [beginProgram_eq]

theorem judge_sectors (j : Journal) : j.judge.sectors = j.sectors := by
  unfold Journal.judge
  repeat' split
  all_goals rfl

/-! ## What a save that ends, and a change of the journal, leave of the journal (R43, R44, R197) -/

/-- The one request a save that ends may make of the journal is a MACHINE append (R54). -/
def Journal.MayAppend (j k : Journal) : Prop := k = j ∨ ∃ body, k = (j.append .machine body).1

theorem startSaving_journal (s : State) : s.journal.MayAppend (startSaving s).journal := by
  unfold startSaving
  split
  · dsimp only
    split
    · exact .inr ⟨_, rfl⟩
    · exact .inr ⟨_, rfl⟩
  · exact .inl rfl

theorem answerSettings_journal (save : Bool) (x : SettingsAnswer) (i : Nat) (v : Int) (s : State) :
    (answerSettings save x i v s).journal = s.journal := by
  unfold answerSettings
  rw [transmit_eq]

theorem settingsSaveEnded_journal (written : Bool) (s : State) :
    s.journal.MayAppend (settingsSaveEnded written s).journal := by
  have hanswered (x : State) (hx : x.journal = s.journal) :
      s.journal.MayAppend (if x.cal.capture = .check then startSaving x else x).journal := by
    split
    · exact hx ▸ startSaving_journal x
    · exact .inl hx
  cases written
  · exact hanswered _ (answerSettings_journal _ _ _ _ _)
  · exact hanswered _ (answerSettings_journal _ _ _ _ _)

theorem saveOutcome_journal (written : Bool) (s : State) : s.journal.MayAppend (saveOutcome written s).journal := by
  unfold saveOutcome
  split
  · exact settingsSaveEnded_journal written s
  · cases written <;> exact .inl rfl
  · exact .inl rfl

/-- A MACHINE request among those queued is dropped by a change of the journal into FAULT (R197). -/
def DropsSave (f : Journal → Journal) (s : State) : Prop :=
  (f s.journal).jstate = .fault ∧ s.journal.jstate ≠ .fault ∧
    s.journal.appendQueue.any (fun q => q.kind == .machine) = true

/-- A change of the journal that drops no save touches the journal, and the stale mark where the state changes. -/
theorem withJournal_of_kept {f : Journal → Journal} (h : ¬DropsSave f s) : withJournal f s = { s with
    journal := f s.journal,
    display := { s.display with
      stale := if (f s.journal).jstate = s.journal.jstate then s.display.stale else true } } := by
  refine (if_neg h).trans ?_
  split <;> rfl

/-- Beyond the change itself the journal may count a request dropped in FAULT. -/
theorem withJournal_journal (f : Journal → Journal) (s : State) :
    ∃ lost, (withJournal f s).journal = { f s.journal with lostAppends := lost } := by
  by_cases h : DropsSave f s
  · have houtcome := saveOutcome_journal false
      (if (f s.journal).jstate = s.journal.jstate then { s with journal := f s.journal }
        else notice { s with journal := f s.journal })
    rw [show (ite _ _ _ : State).journal = f s.journal by split <;> rfl] at houtcome
    rw [show withJournal f s = saveOutcome false _ from if_pos h]
    obtain ⟨hfault, -, -⟩ := h
    rcases houtcome with heq | ⟨body, heq⟩
    · exact ⟨_, heq⟩
    · rw [append_dropped _ _ (.inl hfault)] at heq
      exact ⟨_, heq⟩
  · rw [withJournal_of_kept h]
    exact ⟨_, rfl⟩

theorem withJournal_modeCtl (f : Journal → Journal) (s : State) : (withJournal f s).modeCtl = s.modeCtl :=
  (withJournal_ordinary f s).modeCtl

theorem not_drops_of_all {f : Journal → Journal}
    (h : s.journal.appendQueue.all (fun q => q.kind != .machine) = true) : ¬DropsSave f s := by
  rintro ⟨-, -, hany⟩
  obtain ⟨q, hq, hk⟩ := List.any_eq_true.1 hany
  have hne := List.all_eq_true.1 h q hq
  simp_all

/-- Outside CLOSING no look at closing does anything. -/
theorem closingCheck_of_mode (h : s.modeCtl.mode ≠ .closing) : closingCheck s = s := if_neg fun hc => h hc.1

theorem closingCheck_journal (s : State) : (closingCheck s).journal = s.journal := by rw [closingCheck_frame]

/-! ## PROGRAM_FAILURE (R196) -/

theorem exec_programFailure (hpow : s.pins.resetLow = false) {job : ProgramJob} (hjob : s.journal.job = some job) :
    exec .programFailure s = .next (closingCheck
      (if (job.failable s.journal.store).isEmpty then recordWritten job s.journal.store s else failJob job s)) := by
  rw [show exec .programFailure s = execProgramFailure s from rfl, execProgramFailure, whilePowered_of_high hpow]
  simp only [hjob]

theorem exec_journalRecordWritten (hpow : s.pins.resetLow = false) {job : ProgramJob} {store : List StoreCell}
    (hjob : s.journal.job = some job) (hstore : Store.program s.journal.store job.start job.words = (store, true)) :
    exec .journalRecordWritten s = .next (closingCheck (recordWritten job store s)) := by
  rw [show exec .journalRecordWritten s = execJournalRecordWritten s from rfl, execJournalRecordWritten,
    whilePowered_of_high hpow]
  simp only [hjob, hstore, if_true]

/-- What the journal becomes when a program fails, but for its next work. -/
def Journal.programFault (j : Journal) (job : ProgramJob) (store : List StoreCell) : Journal :=
  { (j.setSector job.sector .faulted).programEnded with
    store := store, job := none, programFailures := inc j.programFailures, target := none }

theorem programFault_sector {job : ProgramJob} {store : List StoreCell} (h : job.sector < 4) :
    (j.programFault job store).sector job.sector = .faulted := by
  change (j.setSector job.sector .faulted).sector job.sector = .faulted
  exact setSector_sector_self .faulted h

theorem failedProgram_eq (j : Journal) (job : ProgramJob) (store : List StoreCell) :
    j.failedProgram job store = (j.programFault job store).judge.beginEraseAhead.pump := rfl

theorem failedProgram_onward (j : Journal) (job : ProgramJob) (store : List StoreCell) :
    (j.programFault job store).judge.Onward (j.failedProgram job store) :=
  (beginEraseAhead_onward _).trans (pump_onward _)

/-- Where the failed sector was the only one that may have been ACTIVE no erase-ahead with copies left stands. -/
theorem failedProgram_target {job : ProgramJob} (store : List StoreCell)
    (h : ∀ n, j.sector n = .active → n = job.sector) : (j.failedProgram job store).target = none := by
  rw [failedProgram_eq, pump_target]
  refine beginEraseAhead_target (judge_target rfl) (active_eq_none_iff.2 fun n hn => ?_)
  rw [Journal.sector, judge_sectors]
  change (j.setSector job.sector .faulted).sector n ≠ .active
  rw [setSector_sector .faulted hn]
  split
  · decide
  · next hne => exact fun ha => hne (h n ha)

/-- Settles O55: what `failedProgram` leaves goes through the judging of the state, erase-ahead and the choice of work,
none of which touches the array, a FAULTED sector or a counter. -/
theorem programFailureFaultsTheSector : Obligations.ProgramFailureFaultsTheSector := by
  intro job s hpow hjob hsector a w
  refine ⟨fun hread hwf => ?_, ?_⟩
  · have hnone : job.failable s.journal.store = [] := failable_eq_nil_iff.2 hread
    rw [exec_programFailure hpow hjob, hnone,
      exec_journalRecordWritten hpow hjob (program_of_read hwf hread)]
    rfl
  · rintro ⟨k, hk, hne⟩
    have hfail : job.failable s.journal.store ≠ [] := fun h => hne (failable_eq_nil_iff.1 h k hk)
    have hexec : exec .programFailure s = .next (closingCheck (failJob job s)) := by
      rw [exec_programFailure hpow hjob, if_neg (by simpa using hfail)]
    refine ⟨closingCheck (failJob job s), hexec, ?_⟩
    let store := job.fail s.freeCount s.journal.store
    let f : Journal → Journal := fun j => j.failedProgram job (job.fail s.freeCount j.store)
    let failed := s.journal.failedProgram job store
    obtain ⟨lost, hlost⟩ := withJournal_journal f s
    have heq : failJob job s = useFree (withJournal f s) := rfl
    have hjournal : (closingCheck (failJob job s)).journal = { failed with lostAppends := lost } := by
      rw [closingCheck_journal, heq, useFree_journal, hlost]
    have honward : (s.journal.programFault job store).judge.Onward failed := failedProgram_onward _ _ _
    have hbefore : (s.journal.programFault job store).Onward failed := (judge_onward _).trans honward
    have hfaulted : (s.journal.programFault job store).sector job.sector = .faulted :=
      programFault_sector hsector
    have hnotOk : failed.jstate ≠ .ok := honward.judged (judge_not_ok hsector hfaulted)
    have htarget : (∀ n, s.journal.sector n = .active → n = job.sector) → failed.target = none :=
      failedProgram_target store
    have hstore : failed.store = store := failedProgram_store _ _ _
    have hf : f s.journal = failed := rfl
    clear_value failed f
    rw [hjournal]
    refine ⟨fun hopen hkept => ?_, hbefore.faults _ hsector hfaulted, hbefore.programFailures, hnotOk, htarget,
      fun hwf hend => ?_, hbefore.requests⟩
    · have hsaves : ¬DropsSave f s :=
        hkept.elim (fun hstate hdrops => hstate (hf ▸ hdrops.1)) not_drops_of_all
      have hmode : (failJob job s).modeCtl.mode ≠ .closing := by
        rw [heq, useFree_modeCtl, withJournal_modeCtl]
        exact hopen
      rw [← hjournal, closingCheck_of_mode hmode, heq, withJournal_of_kept hsaves]
      rfl
    · rw [show Journal.store { failed with lostAppends := lost } = store from hstore]
      exact read_fail s.freeCount hwf hend hfail

/-! ## ERASE_DONE and ERASE_FAILED (R195) -/

theorem exec_eraseDone (hpow : s.pins.resetLow = false) (hn : s.journal.erasingNow = some n) :
    exec .eraseDone s = .next (closingCheck (withJournal (fun j => j.erased n) s)) := by
  rw [show exec .eraseDone s = execEraseDone s from rfl, execEraseDone, whilePowered_of_high hpow]
  simp only [hn]

theorem exec_eraseFailed (hpow : s.pins.resetLow = false) (hn : s.journal.erasingNow = some n)
    (h : fullyErased s.journal.store n = false) : exec .eraseFailed s = .next (closingCheck (failErase n s)) := by
  rw [show exec .eraseFailed s = execEraseFailed s from rfl, execEraseFailed, whilePowered_of_high hpow]
  simp only [hn, h, Bool.false_eq_true, if_false]

/-- The journal after an erase, with nothing more to do. -/
def Journal.eraseEnded (j : Journal) (n : Nat) : Journal :=
  { j with
    sectors := j.sectors.setIfInBounds n .erased, store := Store.eraseSector j.store n, eraseSector := none,
    eraseTime := 0, op := .idle }

theorem carryPlace_of_nil (h : j.carry = []) : j.carryPlace = none := by
  rw [carryPlace_eq, h]
  rfl

theorem appendPlace_of_nil (h : j.appendQueue = []) : j.appendPlace = none := by
  rw [appendPlace_eq, h]
  rfl

theorem erased_of_no_work (hdeferred : j.deferred = false) (hcarry : j.carry = []) (hqueue : j.appendQueue = [])
    (hreads : j.readQueue = []) (hjob : j.job = none) (hserving : j.serving = none) : j.erased n = j.eraseEnded n := by
  have hpump : (j.eraseEnded n).pump = j.eraseEnded n :=
    pump_of_none (not_busy hjob hserving) (carryPlace_of_nil hcarry)
      (appendPlace_of_nil hqueue) hreads
  change Journal.pump (if j.deferred then _ else j.eraseEnded n) = _
  rw [hdeferred, if_neg Bool.false_ne_true, hpump]

/-- An erase of the last sector to be erased drains a journal with nothing more to do. -/
theorem eraseEnded_drained (hcarry : j.carry = []) (hqueue : j.appendQueue = []) (hjob : j.job = none)
    (h : ∀ m, m < 4 → m ≠ n → j.sector m ≠ .erasing) : (j.eraseEnded n).drained = true := by
  have herasing : (j.eraseEnded n).anyErasing = false := by
    rw [Bool.eq_false_iff, ne_eq, anyErasing_iff]
    rintro ⟨m, hm, hsector⟩
    change (j.setSector n .erased).sector m = .erasing at hsector
    rw [setSector_sector .erased hm] at hsector
    split at hsector
    · cases hsector
    · next hne => exact h m hm hne hsector
  rw [Journal.drained, herasing]
  simp [Journal.eraseEnded, hcarry, hqueue, hjob]

/-- What the journal becomes when an erase fails, but for its next work. -/
def Journal.eraseFault (j : Journal) (n : Nat) (store : List StoreCell) : Journal :=
  { j.setSector n .faulted with
    store := store, eraseSector := none, eraseTime := 0, op := .idle, eraseFailures := inc j.eraseFailures }

theorem eraseFault_sector {store : List StoreCell} (h : n < 4) : (j.eraseFault n store).sector n = .faulted := by
  change (j.setSector n .faulted).sector n = .faulted
  exact setSector_sector_self .faulted h

theorem failedErase_onward (j : Journal) (n : Nat) (store : List StoreCell) :
    (j.eraseFault n store).judge.Onward (j.failedErase n store) := by
  change Journal.Onward _ (Journal.pump (if _ then _ else _))
  split
  · exact (beginEraseAhead_onward _).trans (pump_onward _)
  · exact pump_onward _

/-- A word that is listed does not read erased. -/
theorem read_of_mem (hm : Store.wf m) {c : StoreCell} (hc : c ∈ m) : Store.read m c.1 = c.2 := by
  induction m with
  | nil => cases hc
  | cons d m ih =>
    obtain ⟨b, v⟩ := d
    obtain ⟨habove, -, hrest⟩ := Store.wf_cons.1 hm
    rw [Store.read]
    rcases List.mem_cons.1 hc with rfl | hc
    · exact if_pos rfl
    · rw [if_neg (habove c hc).ne', ih hrest hc]

/-- A sector that is not wholly erased has a word that does not read 0xFFFF. -/
theorem exists_read_of_not_erased (hm : Store.wf m) (h : fullyErased m n = false) :
    ∃ a, a / 1024 = n ∧ Store.read m a ≠ 0xFFFF#16 := by
  obtain ⟨c, hc⟩ := List.isEmpty_eq_false_iff_exists_mem.1 h
  obtain ⟨hmem, hsector⟩ := List.mem_filter.1 hc
  refine ⟨c.1, by simpa [sectorWords] using hsector, ?_⟩
  rw [read_of_mem hm hmem]
  exact (hm.2 c hmem).1

/-- Settles O56: ERASE_DONE is `erased`, and ERASE_FAILED `failedErase` over an array erased in part. -/
theorem erasesComplete : Obligations.ErasesComplete := by
  intro n s hpow hop hsector hn
  have hnow : s.journal.erasingNow = some n := (if_pos hop).trans hsector
  refine ⟨⟨closingCheck (withJournal (fun j => j.erased n) s), exec_eraseDone hpow hnow, fun a => ?_, ?_⟩,
    fun hwf hleft hkept => ⟨closingCheck (failErase n s), exec_eraseFailed hpow hnow hleft, ?_⟩⟩
  · have hstore : (withJournal (fun j => j.erased n) s).journal.store = Store.eraseSector s.journal.store n :=
      (withJournal_ordinary (fun j => j.erased n) s).journal.store.trans (erased_store _ _)
    rw [closingCheck_journal, hstore]
    exact Store.read_eraseSector
  · intro hdeferred hcarry hqueue hreads hjob hserving done
    have hended : withJournal (fun j => j.erased n) s = done := by
      have hnot : ¬DropsSave (fun j => j.erased n) s := not_drops_of_all (by simp [hqueue])
      rw [withJournal_of_kept hnot, erased_of_no_work hdeferred hcarry hqueue hreads hjob hserving]
      exact congrArg (fun b => { done with display := { s.display with stale := b } }) (if_pos rfl)
    rw [hended]
    refine ⟨fun hmode => closingCheck_of_mode hmode, fun hmode hasked haccess herasing => ?_⟩
    exact if_pos ⟨hmode, hasked, eraseEnded_drained hcarry hqueue hjob herasing, haccess⟩
  · let store := Store.erasePart s.freeCount s.journal.store n
    let f : Journal → Journal := fun j => j.failedErase n (Store.erasePart s.freeCount j.store n)
    have hsaves : ¬DropsSave f s := not_drops_of_all hkept
    have hfailed : failErase n s = useFree (withJournal f s) := rfl
    have hjournal : (closingCheck (failErase n s)).journal = s.journal.failedErase n store := by
      rw [closingCheck_journal, hfailed, useFree_journal, withJournal_of_kept hsaves]
    have honward := failedErase_onward s.journal n store
    have hbefore := (judge_onward _).trans honward
    have hfaulted := eraseFault_sector (j := s.journal) (store := store) hn
    have hstore := failedErase_store s.journal n store
    rw [hjournal]
    refine ⟨fun hopen => ?_, hbefore.faults n hn hfaulted, hbefore.eraseFailures,
      honward.judged (judge_not_ok hn hfaulted), ?_, fun a ha => ?_⟩
    · have hmode : (failErase n s).modeCtl.mode ≠ .closing := by
        rw [hfailed, useFree_modeCtl, withJournal_modeCtl]
        exact hopen
      rw [closingCheck_of_mode hmode, hfailed, withJournal_of_kept hsaves]
      rfl
    · rw [hstore]
      exact exists_read_of_not_erased (Store.wf_erasePart hwf) (Store.fullyErased_erasePart hleft)
    · rw [hstore]
      exact Store.read_erasePart_outside ha

end Sys2Proof.Machine
end

section
/-! PROOFS. A journal record is written (R191), and a save or closing ends with it (R43, R44, R224). -/

namespace Sys2Proof.Machine

variable {j : Journal} {job : ProgramJob} {store : List StoreCell} {n : Nat} {s t : State}

/-! ## The journal after a record (R191, R193, R194) -/

/-- The journal with the record off its list and in the readable set, before a target is erased or erase-ahead
begins. -/
def Journal.recorded (j : Journal) (job : ProgramJob) (store : List StoreCell) : Journal :=
  { j with
    job := none, op := if j.op = .programming then .idle else j.op, store := store,
    fill := j.fill + job.words.length, carry := if job.fromCarry then j.carry.tail else j.carry,
    appendQueue := if job.fromCarry then j.appendQueue else j.appendQueue.tail,
    readable := j.readable ++
      [{ sector := job.sector, addr := job.addr, kind := job.kind, length := job.words.length, seq := job.seq }] }

/-- The last copy written lets the target be erased (R194). -/
def Journal.carried (j : Journal) : Journal :=
  match j.target, j.carry with
  | some n, [] => j.enterErasing n
  | _, _ => j

/-- A fill of 768 or more begins erase-ahead, where the mark is clear (R193). -/
def Journal.onFill (j : Journal) : Journal := if 768 ≤ j.fill ∧ j.mark = false then j.beginEraseAhead else j

theorem written_eq (j : Journal) (job : ProgramJob) (store : List StoreCell) :
    (j.dequeueJob job).written job store = (j.recorded job store).carried.onFill := by
  have hrecorded : { (j.dequeueJob job).programEnded with
      store := store, fill := (j.dequeueJob job).programEnded.fill + job.words.length,
      readable := (j.dequeueJob job).programEnded.readable ++
        [{ sector := job.sector, addr := job.addr, kind := job.kind, length := job.words.length, seq := job.seq }] } =
      j.recorded job store := by
    unfold Journal.dequeueJob Journal.recorded
    split <;> rfl
  exact congrArg (fun k : Journal => k.carried.onFill) hrecorded

theorem carried_of_copying (h : j.target = none ∨ j.carry ≠ []) : j.carried = j := by
  unfold Journal.carried
  split
  · next n ht hc => rcases h with h | h <;> simp_all
  · rfl

theorem carried_of_target (ht : j.target = some n) (hc : j.carry = []) : j.carried = j.enterErasing n := by
  unfold Journal.carried
  rw [ht, hc]

theorem carried_frame (j : Journal) : j.carried.fill = j.fill ∧ j.carried.mark = j.mark ∧
    j.carried.jstate = j.jstate ∧ j.carried.appendQueue = j.appendQueue := by
  unfold Journal.carried
  split <;> exact ⟨rfl, rfl, rfl, rfl⟩

/-- A record that leaves the fill below 768, or the mark set already, begins no erase-ahead. -/
theorem written_of_quiet (h : j.fill + job.words.length < 768 ∨ j.mark = true) :
    (j.dequeueJob job).written job store = (j.recorded job store).carried := by
  obtain ⟨hfill, hmark, -, -⟩ := carried_frame (j.recorded job store)
  rw [written_eq]
  refine if_neg fun ⟨hfull, hclear⟩ => ?_
  rw [hfill] at hfull
  rw [hmark] at hclear
  rcases h with hlt | hset
  · exact absurd hfull (not_le.2 hlt)
  · exact absurd hclear (by rw [show (j.recorded job store).mark = true from hset]; decide)

theorem written_of_full (hfull : 768 ≤ j.fill + job.words.length) (hmark : j.mark = false)
    (h : j.target = none ∨ (j.recorded job store).carry ≠ []) :
    (j.dequeueJob job).written job store = (j.recorded job store).beginEraseAhead := by
  have hcarried : (j.recorded job store).carried = j.recorded job store := carried_of_copying h
  rw [written_eq, hcarried]
  exact if_pos ⟨hfull, hmark⟩

theorem dequeueJob_fields (j : Journal) (job : ProgramJob) (store : List StoreCell) :
    (j.dequeueJob job).jstate = j.jstate ∧
      (j.dequeueJob job).appendQueue = (j.recorded job store).appendQueue := by
  unfold Journal.dequeueJob Journal.recorded
  split <;> exact ⟨rfl, rfl⟩

/-- The choice of work leaves a drained journal drained (R202). -/
theorem pump_drained (h : j.drained = true) : j.pump.drained = true := by
  have hlists : j.appendQueue = [] ∧ j.carry = [] ∧ j.job = none ∧ j.anyErasing = false := by
    simpa [Journal.drained, and_assoc] using h
  obtain ⟨hqueue, hcarry, hjob, herasing⟩ := hlists
  by_cases hbusy : j.busy = true
  · rw [pump_of_busy hbusy]
    exact h
  · cases hreads : j.readQueue with
    | cons r rest => rw [pump_of_read hbusy (carryPlace_of_nil hcarry) (appendPlace_of_nil hqueue) hreads]; exact h
    | nil => rw [pump_of_none hbusy (carryPlace_of_nil hcarry) (appendPlace_of_nil hqueue) hreads]; exact h

/-! ## What a save that is written leaves (R43, R44, R53) -/

/-- The Calibration Unit with the working copy `r` active (R33, R35). -/
def Calibration.activated (c : Calibration) (r : MachineRecord) : Calibration :=
  { c with
    active := r, save := none,
    refEntry := match r.curves with
      | some curves => curves.refLoad
      | none => c.refEntry }

/-- The part with the working copy `r` active. -/
def activated (r : MachineRecord) (s : State) : State :=
  { s with
    cal := s.cal.activated r, weigher := { s.weigher with z := 0 }, display := { s.display with stale := true } }

theorem activateWorking_of_working {r : MachineRecord} (h : s.cal.working = some r) :
    activateWorking s = activated r s := by
  have hrecord : workingRecord s = r := by rw [workingRecord, h]; rfl
  unfold activateWorking
  rw [hrecord]
  rfl

theorem saveOutcome_of_none (h : s.cal.save = none) (written : Bool) : saveOutcome written s = s := by
  unfold saveOutcome
  rw [h]

theorem saveOutcome_of_capture (h : s.cal.save = some .capture) (written : Bool) :
    saveOutcome written s = captureSaveEnded written s := by
  unfold saveOutcome
  rw [h]

theorem saveOutcome_of_settings (h : s.cal.save = some .settings) (written : Bool) :
    saveOutcome written s = settingsSaveEnded written s := by
  unfold saveOutcome
  rw [h]

/-- The answer to a SETTINGS SAVE that is written. -/
def savedAnswer (s : State) : State := answerSettings true .saved 0 0 (activateWorking s)

theorem savedAnswer_eq {r : MachineRecord} (h : s.cal.working = some r) : savedAnswer s =
    { activated r s with line := (transmit .settingsAnswer (settingsAnswerData true .saved 0 0) s).line } := by
  unfold savedAnswer answerSettings
  rw [activateWorking_of_working h]
  exact transmit_from (s := s) (t := activated r s) _ _ rfl rfl

theorem settingsSaveEnded_written (s : State) : settingsSaveEnded true s =
    if (savedAnswer s).cal.capture = .check then startSaving (savedAnswer s) else savedAnswer s := rfl

theorem savedAnswer_journal (s : State) : (savedAnswer s).journal = s.journal := answerSettings_journal _ _ _ _ _

theorem savedAnswer_capture (s : State) : (savedAnswer s).cal.capture = s.cal.capture := by
  unfold savedAnswer answerSettings
  rw [transmit_eq]
  rfl

/-- A save that is written asks nothing of the journal, but where a capture waits in CHECK. -/
theorem saveOutcome_journal_of_not_check (h : s.cal.capture ≠ .check) : (saveOutcome true s).journal = s.journal := by
  cases hsave : s.cal.save with
  | none => rw [saveOutcome_of_none hsave]
  | some x =>
    cases x with
    | capture => rw [saveOutcome_of_capture hsave]; rfl
    | settings =>
      rw [saveOutcome_of_settings hsave, settingsSaveEnded_written, savedAnswer_capture, if_neg h, savedAnswer_journal]

/-! ## JOURNAL_RECORD_WRITTEN -/

/-- The record that ends is a MACHINE record asked for by a save. -/
abbrev ProgramJob.Saves (job : ProgramJob) : Prop := job.kind = .machine ∧ job.fromCarry = false

/-- The state once the record has left its list and the journal has noted it, where no save is dropped. -/
def recordNoted (job : ProgramJob) (store : List StoreCell) (s : State) : State :=
  withJournal (fun j => j.written job store) { s with journal := s.journal.dequeueJob job }

theorem recordWritten_of_save (h : job.Saves) : recordWritten job store s =
    { saveOutcome true (recordNoted job store s) with
      journal := (saveOutcome true (recordNoted job store s)).journal.pump } := by
  exact congrArg (fun t : State => { t with journal := t.journal.pump }) (if_pos h)

theorem recordWritten_of_other (h : ¬job.Saves) : recordWritten job store s =
    { recordNoted job store s with journal := (recordNoted job store s).journal.pump } := by
  exact congrArg (fun t : State => { t with journal := t.journal.pump }) (if_neg h)

/-- No save is dropped where no erase-ahead begins, or no MACHINE request waits. -/
theorem recordNoted_eq
    (h : (s.journal.fill + job.words.length < 768 ∨ s.journal.mark = true) ∨
      (s.journal.recorded job store).appendQueue.all (fun q => q.kind != .machine) = true) :
    ∃ b, recordNoted job store s = { s with
        journal := (s.journal.dequeueJob job).written job store, display := { s.display with stale := b } } ∧
      ((s.journal.fill + job.words.length < 768 ∨ s.journal.mark = true) → b = s.display.stale) := by
  obtain ⟨hstate, hqueue⟩ := dequeueJob_fields s.journal job store
  have hquiet (hq : s.journal.fill + job.words.length < 768 ∨ s.journal.mark = true) :
      ((s.journal.dequeueJob job).written job store).jstate = (s.journal.dequeueJob job).jstate := by
    rw [written_of_quiet hq, hstate]
    exact (carried_frame _).2.2.1
  let u : State := { s with journal := s.journal.dequeueJob job }
  have hkept : ¬DropsSave (fun j => j.written job store) u := by
    rcases h with hq | hall
    · rintro ⟨hfault, hnot, -⟩
      exact hnot ((hquiet hq).symm.trans hfault)
    · refine not_drops_of_all (s := u) ?_
      rw [show u.journal.appendQueue = _ from hqueue]
      exact hall
  exact ⟨_, withJournal_of_kept hkept, fun hq => if_pos (hquiet hq)⟩

/-- No erase-ahead begins at the record's end, or no MACHINE request waits then. -/
def RecordKeepsSaves (job : ProgramJob) (store : List StoreCell) (s : State) : Prop :=
  (s.journal.fill + job.words.length < 768 ∨ s.journal.mark = true) ∨
    (s.journal.recorded job store).appendQueue.all (fun q => q.kind != .machine) = true

/-- The journal after a record, and the work it takes next, where no save asks anything of it. -/
theorem recordWritten_journal (h : RecordKeepsSaves job store s) (hsave : ¬job.Saves ∨ s.cal.capture ≠ .check) :
    (recordWritten job store s).journal = ((s.journal.dequeueJob job).written job store).pump := by
  obtain ⟨b, hnoted, -⟩ := recordNoted_eq h
  by_cases hs : job.Saves
  · have hcapture := hsave.resolve_left (not_not.2 hs)
    rw [recordWritten_of_save hs, hnoted]
    exact congrArg Journal.pump (saveOutcome_journal_of_not_check hcapture)
  · rw [recordWritten_of_other hs, hnoted]

/-- A record that ends no save touches the journal, and the stale mark where the journal state changes. -/
theorem recordWritten_other (h : RecordKeepsSaves job store s) (hs : ¬job.Saves) : ∃ b, recordWritten job store s =
    { s with
      journal := ((s.journal.dequeueJob job).written job store).pump, display := { s.display with stale := b } } ∧
    ((s.journal.fill + job.words.length < 768 ∨ s.journal.mark = true) → b = s.display.stale) := by
  obtain ⟨b, hnoted, hb⟩ := recordNoted_eq h
  exact ⟨b, by rw [recordWritten_of_other hs, hnoted], hb⟩

/-- A record that ends a save, with no erase-ahead begun: the save's outcome, over the journal that has noted it. -/
theorem recordWritten_save (hquiet : s.journal.fill + job.words.length < 768 ∨ s.journal.mark = true) (hs : job.Saves) :
    let noted := { s with journal := (s.journal.recorded job store).carried }
    recordWritten job store s = { saveOutcome true noted with journal := (saveOutcome true noted).journal.pump } := by
  obtain ⟨b, hnoted, hb⟩ := recordNoted_eq (store := store) (.inl hquiet)
  rw [written_of_quiet hquiet, hb hquiet] at hnoted
  rw [recordWritten_of_save hs, hnoted]

theorem recordWritten_modeCtl (job : ProgramJob) (store : List StoreCell) (s : State) :
    (recordWritten job store s).modeCtl = s.modeCtl := by
  have hnoted : (recordNoted job store s).modeCtl = s.modeCtl := withJournal_modeCtl _ _
  by_cases hs : job.Saves
  · rw [recordWritten_of_save hs]
    exact (saveOutcome_ordinary true _).modeCtl.trans hnoted
  · rw [recordWritten_of_other hs]
    exact hnoted

/-- The last record drains a journal with no copy and no request left and no sector to be erased. -/
theorem recorded_drained (hcarry : (j.recorded job store).carry = []) (hqueue : (j.recorded job store).appendQueue = [])
    (herasing : j.anyErasing = false) : (j.recorded job store).drained = true := by
  rw [Journal.drained, hcarry, hqueue, show (j.recorded job store).anyErasing = false from herasing]
  rfl

/-- Settles O53: the journal by `written`, the save by its outcome, and closing by the check at the end. -/
theorem recordsAreWritten : Obligations.RecordsAreWritten := by
  intro job store s hpow hjob hstore j carry queue fill q saves quiet copying open_
  have hclosed (hopen : open_) : closingCheck (recordWritten job store s) = recordWritten job store s := by
    exact closingCheck_of_mode (by rw [recordWritten_modeCtl]; exact hopen)
  refine ⟨closingCheck (recordWritten job store s), exec_journalRecordWritten hpow hjob hstore,
    fun hopen hother hkept => ?_, fun hother => ⟨fun hcopying hquiet => ?_, fun n htarget hcarry hquiet => ?_,
      fun hcopying hfull hmark hall => ?_⟩, fun hclosing hasked haccess hother hquiet hcarry hqueue htarget herasing => ?_,
    fun r hopen hs hquiet hworking => ?_⟩
  · obtain ⟨b, heq, -⟩ := recordWritten_other (store := store) hkept hother
    rw [hclosed hopen, heq]
  · rw [closingCheck_journal, recordWritten_journal (.inl hquiet) hother, written_of_quiet hquiet,
      show (s.journal.recorded job store).carried = _ from carried_of_copying hcopying]
    rfl
  · rw [closingCheck_journal, recordWritten_journal (.inl hquiet) hother, written_of_quiet hquiet,
      show (s.journal.recorded job store).carried = _ from carried_of_target htarget hcarry]
    rfl
  · rw [closingCheck_journal, recordWritten_journal (.inr hall) hother, written_of_full hfull hmark hcopying]
    rfl
  · obtain ⟨b, heq, hb⟩ := recordWritten_other (store := store) (.inl hquiet) hother
    rw [heq, hb hquiet, written_of_quiet hquiet,
      show (s.journal.recorded job store).carried = q from carried_of_copying (.inl htarget)]
    have hdrained : q.pump.drained = true := pump_drained (recorded_drained hcarry hqueue herasing)
    have hstill : q.pump.drainAsked = true := (pump_asked q).drainAsked.trans hasked
    exact if_pos ⟨not_not.1 hclosing, hstill, hdrained, haccess⟩
  · rw [hclosed hopen, recordWritten_save hquiet hs]
    intro active answer ended
    let noted : State := { s with journal := (s.journal.recorded job store).carried }
    have hline : (transmit .settingsAnswer (settingsAnswerData true .saved 0 0) noted).line = answer :=
      transmit_line_congr _ _ rfl rfl
    have hanswered : savedAnswer noted = { activated r noted with line := answer } :=
      hline ▸ savedAnswer_eq (s := noted) hworking
    refine ⟨fun hsave => ?_, fun hsave hcapture => ?_, fun e l hsave hcheck he hl hstate hroom => ?_⟩
    · have houtcome : saveOutcome true noted = setCapture .done (activated r noted) := by
        rw [saveOutcome_of_capture (s := noted) hsave,
          show captureSaveEnded true noted = setCapture .done (activateWorking noted) from rfl,
          activateWorking_of_working (s := noted) hworking]
      dsimp only [ended]
      rw [houtcome]
      rfl
    · have houtcome : saveOutcome true noted = { activated r noted with line := answer } := by
        rw [saveOutcome_of_settings (s := noted) hsave, settingsSaveEnded_written, savedAnswer_capture,
          if_neg hcapture, hanswered]
      dsimp only [ended]
      rw [houtcome]
      rfl
    · let u : State := { activated r noted with line := answer }
      have hqueue : u.journal.appendQueue = queue := (carried_frame (s.journal.recorded job store)).2.2.2
      have hfault : u.journal.jstate = s.journal.jstate := (carried_frame (s.journal.recorded job store)).2.2.1
      have htaken (body : List Word) : (u.journal.append .machine body).2 = true :=
        append_taken .machine body (hfault.trans_ne hstate) (by rw [hqueue]; exact hroom)
      have houtcome : saveOutcome true noted = savingBegun { empty := e, loaded := l, refLoad := s.cal.candRef } u := by
        rw [saveOutcome_of_settings (s := noted) hsave, settingsSaveEnded_written, savedAnswer_capture,
          if_pos hcheck, hanswered]
        exact (startSaving_eq (s := u) he hl).trans (if_pos (htaken _))
      dsimp only [ended]
      rw [houtcome]
      unfold savingBegun
      rw [show workingRecord u = r by
        change s.cal.working.getD r = r
        rw [hworking]
        rfl]
      rfl

end Sys2Proof.Machine
end

section
/-! PROOFS. The frame: its lines, lamps and bar (R167, R179, R181, R184). -/

namespace Sys2Proof.Machine

variable {l k : List Byte} {m n : Nat} {s : State}

/-! ## Texts (R167, R185) -/

/-- Every byte is a character code of the table of R167. -/
abbrev Chars (l : List Byte) : Prop := ∀ b ∈ l, isCharCode b = true

theorem chars_of_all (h : l.all isCharCode = true) : Chars l := List.all_eq_true.1 h

theorem Chars.append (hl : Chars l) (hk : Chars k) : Chars (l ++ k) := List.forall_mem_append.2 ⟨hl, hk⟩

theorem chars_replicate {b : Byte} (hb : isCharCode b = true) (n : Nat) : Chars (List.replicate n b) := fun _ hc =>
  List.eq_of_mem_replicate hc ▸ hb

theorem chars_spaces (n : Nat) : Chars (spaces n) := chars_replicate (by decide) n

theorem chars_digit (n : Nat) : Chars [digit n] := by
  have hall : ∀ d, d < 10 → isCharCode (BitVec.ofNat 8 (48 + d)) = true := by decide
  exact List.forall_mem_singleton.2 (hall _ (Nat.mod_lt n (by decide)))

theorem chars_digitsFuel : ∀ fuel n, Chars (digitsFuel fuel n)
  | 0, _ => List.forall_mem_nil _
  | fuel + 1, n => by
    unfold digitsFuel
    split
    · exact chars_digit n
    · exact (chars_digitsFuel fuel _).append (chars_digit n)

theorem chars_decimal (n : Nat) : Chars (decimal n) := chars_digitsFuel 20 n

theorem chars_tenths (n : Nat) : Chars (tenths n) := ((chars_decimal _).append (chars_of_all rfl)).append (chars_digit n)

theorem chars_tonnes (kg : Int) : Chars (tonnes kg) := chars_tenths _

theorem chars_abortReason (r : AbortReason) : Chars (txt r.text) := by cases r <;> exact chars_of_all rfl

theorem chars_message (x : Message) : Chars x.text := by
  cases x with
  | liftAborted r => exact Chars.append (k := txt r.text) (chars_of_all rfl) (chars_abortReason r)
  | captAborted r => exact Chars.append (k := txt r.text) (chars_of_all rfl) (chars_abortReason r)
  | gapAtPoint k => exact Chars.append (k := decimal k) (chars_of_all rfl) (chars_decimal k)
  | spanAtPoint k => exact Chars.append (k := decimal k) (chars_of_all rfl) (chars_decimal k)
  | material y rho =>
    dsimp only [Message.text]
    exact (Chars.append (Chars.append (chars_of_all rfl) (chars_decimal _)) (chars_of_all rfl)).append (chars_decimal _)
  | passDeleted n =>
    dsimp only [Message.text]
    exact Chars.append (Chars.append (chars_of_all rfl) (chars_decimal n)) (chars_of_all rfl)
  | shiftOpen n =>
    dsimp only [Message.text]
    exact Chars.append (Chars.append (chars_of_all rfl) (chars_decimal n)) (chars_of_all rfl)
  | zeroSet | zeroTooLarge | zeroArmed | zeroCancelled => exact chars_of_all rfl
  | noCalibration | calRestart | calRefusedNoPitch | calCancelled => exact chars_of_all rfl
  | passCarriedBack | passDiscarded | passLimitClosed | noPasses | nothingToDelete => exact chars_of_all rfl
  | truckDeparted | truckClosed | truckListFull | truckToEnd | truckRemoved | noTruck => exact chars_of_all rfl

theorem chars_captureText (c : Calibration) : Chars (captureText c) := by
  unfold captureText
  cases c.capture with
  | refEntry => exact Chars.append (Chars.append (chars_of_all rfl) (chars_decimal _)) (chars_of_all rfl)
  | failed r => exact Chars.append (chars_of_all rfl) (by cases r <;> exact chars_of_all rfl)
  | idle | emptyArmed | emptyDone | loadedArmed | check | saving | done => exact chars_of_all rfl

/-! ## Fields and lines -/

/-- A text of `n` columns. -/
structure Field (n : Nat) (l : List Byte) : Prop where
  width : l.length = n
  chars : Chars l

theorem field_of_all (hn : l.length = n) (h : l.all isCharCode = true) : Field n l := ⟨hn, chars_of_all h⟩

theorem Field.append (hl : Field m l) (hk : Field n k) : Field (m + n) (l ++ k) :=
  ⟨by rw [List.length_append, hl.width, hk.width], hl.chars.append hk.chars⟩

theorem field_replicate {b : Byte} (hb : isCharCode b = true) (n : Nat) : Field n (List.replicate n b) :=
  ⟨List.length_replicate, chars_replicate hb n⟩

theorem field_spaces (n : Nat) : Field n (spaces n) := field_replicate (by decide) n

theorem field_padRight (n : Nat) (h : Chars l) : Field n (padRight n l) where
  width := by simp [padRight, spaces]
  chars := fun b hb => h.append (chars_spaces n) b (List.mem_of_mem_take hb)

theorem field_padLeft (n : Nat) (h : Chars l) : Field n (padLeft n l) := by
  unfold padLeft
  split
  · next hle => exact ⟨by simp [spaces]; omega, (chars_spaces _).append h⟩
  · exact field_replicate (by decide) n

theorem field_lineOf (h : Chars l) : Field 20 (lineOf l) := field_padRight columns h

theorem field_figure (n : Nat) {f : Option (List Byte)} (h : ∀ l, f = some l → Chars l) : Field n (figure n f) := by
  unfold figure
  cases f with
  | some l => exact field_padLeft n (h l rfl)
  | none => exact field_replicate (by decide) n

theorem field_tenthsFigure (n : Nat) (x : Option Nat) : Field n (figure n (x.map tenths)) :=
  field_figure n fun l hl => by
    obtain ⟨a, -, rfl⟩ := Option.map_eq_some_iff.1 hl
    exact chars_tenths a

theorem field_space : Field 1 [space] := (field_of_all rfl rfl)

/-- Two lines of twenty columns. -/
structure Lines.Full (x : Lines) : Prop where
  first : Field 20 x.line1
  second : Field 20 x.line2

/-! ## The pages (R180 to R183) -/

theorem loadPage_full (s : State) : (loadPage s).Full := by
  unfold loadPage
  cases s.trucks.entries with
  | nil => exact ⟨field_lineOf (chars_of_all rfl), field_spaces _⟩
  | cons e rest =>
    have hidentity : Chars (identityText e.identity) := by
      unfold identityText
      split
      · exact chars_decimal _
      · exact chars_of_all rfl
    have hwaiting : Chars (waitingText rest.length) := by
      unfold waitingText
      split
      · exact chars_spaces 2
      · exact Chars.append (chars_of_all rfl) (chars_decimal _)
    have hadvice : Field 8 (adviceText (adviceFor (ratedLoad s) e) (e.target - e.total)) := by
      unfold adviceText
      split
      · exact field_padRight 8 (chars_of_all rfl)
      · exact Field.append (m := 1) (field_of_all rfl rfl) (field_padLeft 7 (chars_decimal _))
      · exact Field.append (m := 1) (field_of_all rfl rfl) (field_padLeft 7 (chars_decimal _))
    exact
      ⟨(((field_padRight 10 hidentity).append field_space).append (field_padRight 4 hwaiting)).append
          (field_padLeft 5 ((chars_decimal _).append (chars_of_all rfl))),
        ((field_padLeft 11 (((chars_tonnes _).append (chars_of_all rfl)).append (chars_tonnes _))).append field_space).append
          hadvice⟩

theorem bucketPage_full (s : State) : (bucketPage s).Full := by
  unfold bucketPage
  cases bucketFigure s.pass with
  | none => exact ⟨field_lineOf (chars_of_all rfl), field_spaces _⟩
  | some x =>
    obtain ⟨p, pending⟩ := x
    have hname : Field 4 (txt (if pending then "PEND" else "LAST")) := by
      cases pending <;> exact (field_of_all rfl rfl)
    have hquality : Field 1 (if p.flags.isEmpty then [space] else txt "?") := by
      split <;> exact (field_of_all rfl rfl)
    exact
      ⟨((((((((hname.append field_space).append (field_padLeft 4 (chars_tonnes _))).append
          (n := 1) (field_of_all rfl rfl)).append field_space).append (field_padLeft 5 (chars_tenths _))).append
          (n := 1) (field_of_all rfl rfl)).append (field_spaces 2)).append hquality),
        ((((Field.append (m := 3) (field_of_all rfl rfl) (field_padLeft 2 (chars_decimal _))).append
          (field_spaces 9)).append (n := 1) (field_of_all rfl rfl)).append (field_padLeft 5 (chars_decimal _)))⟩

theorem shiftPage_full (s : State) : (shiftPage s).Full := by
  have hlast : Field 5 (figure 5 (s.cycle.last.map (fun r => tenths r.total))) :=
    field_figure 5 fun l hl => by
      obtain ⟨r, -, rfl⟩ := Option.map_eq_some_iff.1 hl
      exact chars_tenths _
  exact
    ⟨((((((Field.append (m := 1) (field_of_all rfl rfl) (field_padLeft 5 (chars_decimal _))).append field_space).append
        (n := 1) (field_of_all rfl rfl)).append hlast).append field_space).append (n := 1) (field_of_all rfl rfl)).append
        (field_tenthsFigure 5 _),
      (((((Field.append (m := 1) (field_of_all rfl rfl) (field_padLeft 3 (chars_decimal _))).append field_space).append
        (field_padLeft 7 (chars_tonnes _))).append (n := 1) (field_of_all rfl rfl)).append field_space).append
        (field_tenthsFigure 6 _)⟩

theorem statusLine1_field (p : ProducerTable) : Field 20 (statusLine1 p) := by
  have hpair (ch : Channel) : Field 2 (txt (channelLetter ch) ++ txt (p.channelState ch).sign) := by
    refine Field.append (m := 1) (n := 1) ?_ ?_
    · cases ch <;> exact field_of_all rfl rfl
    · cases p.channelState ch <;> exact field_of_all rfl rfl
  have hdegraded : Chars (if p.degraded then txt "DEG" else []) := by
    split
    · exact chars_of_all rfl
    · exact chars_of_all rfl
  have hchannels : Field 16 (allChannels.flatMap fun ch => txt (channelLetter ch) ++ txt (p.channelState ch).sign) := by
    refine ⟨?_, fun b hb => ?_⟩
    · simp only [List.length_flatMap, (hpair _).width]
      rfl
    · obtain ⟨ch, -, hmem⟩ := List.mem_flatMap.1 hb
      exact (hpair ch).chars b hmem
  exact (hchannels.append field_space).append (field_padRight 3 hdegraded)

theorem twoFigures_field {a b : String} (ha : Chars (txt a)) (hb : Chars (txt b)) (m n : Nat) :
    Field 20 (twoFigures a m b n) :=
  (((field_padRight 4 ha).append (field_padLeft 6 (chars_decimal m))).append (field_padRight 4 hb)).append
    (field_padLeft 6 (chars_decimal n))

theorem stationItem_field (m : ModeCtl) : Field 20 (stationItem m) := by
  unfold stationItem
  split
  · exact field_lineOf (chars_of_all rfl)
  · exact (((field_padRight 4 (chars_of_all rfl)).append (field_padLeft 6 (chars_decimal _))).append
      (field_spaces 4)).append (field_padLeft 6 (chars_decimal _))

theorem statusItemLine_field (s : State) : Field 20 (statusItemLine s) := by
  have hname : Chars (txt s.journal.jstate.name) := by cases s.journal.jstate <;> exact chars_of_all rfl
  unfold statusItemLine
  split
  · exact (field_padRight 14 (chars_of_all rfl)).append (field_padLeft 6 (chars_decimal _))
  · exact (field_padRight 8 (chars_of_all rfl)).append (field_padRight 12 hname)
  · exact twoFigures_field (chars_of_all rfl) (chars_of_all rfl) _ _
  · exact twoFigures_field (chars_of_all rfl) (chars_of_all rfl) _ _
  · exact twoFigures_field (chars_of_all rfl) (chars_of_all rfl) _ _
  · exact twoFigures_field (chars_of_all rfl) (chars_of_all rfl) _ _
  · exact stationItem_field _

theorem pageLines_full (s : State) : (pageLines s).Full := by
  unfold pageLines
  cases s.display.page with
  | load => exact loadPage_full s
  | bucket => exact bucketPage_full s
  | shift => exact shiftPage_full s
  | status => exact ⟨statusLine1_field _, statusItemLine_field s⟩

/-! ## SERVICE and the screens of the other modes (R38, R178) -/

theorem serviceLine_field (c : Calibration) : Field 20 (serviceLine c) := by
  unfold serviceLine
  split
  · exact (field_padRight 19 (chars_captureText c)).append (n := 1) (by cases c.phase <;> exact field_of_all rfl rfl)
  · exact field_lineOf (chars_captureText c)

theorem screenLines_full (s : State) : (screenLines s).Full := by
  unfold screenLines
  cases s.modeCtl.mode with
  | start => exact ⟨field_lineOf (chars_of_all rfl), field_lineOf (chars_of_all rfl)⟩
  | join =>
    refine ⟨field_lineOf (chars_of_all rfl), field_lineOf ?_⟩
    split
    · exact chars_of_all rfl
    · exact Chars.append (chars_of_all rfl) (chars_decimal _)
  | run => exact pageLines_full s
  | service => exact ⟨(pageLines_full s).first, serviceLine_field _⟩
  | closing => exact ⟨field_lineOf (chars_of_all rfl), field_lineOf (chars_of_all rfl)⟩
  | standby => exact ⟨field_spaces _, field_spaces _⟩

theorem shownLine2_field (s : State) : Field 20 (shownLine2 s) := by
  unfold shownLine2
  split
  · exact field_lineOf (chars_message _)
  · exact (screenLines_full s).second

/-! ## The frame (R167, R179, R181, R184) -/

/-- The parts of a frame: the forty characters, the segments, the lamps and the bar's mode. -/
theorem composeFrame_parts (s : State) :
    (composeFrame s).length = 43 ∧ (composeFrame s).take 40 = (screenLines s).line1 ++ shownLine2 s ∧
      ((composeFrame s).drop 20).take 20 = shownLine2 s ∧
      (composeFrame s).getD 40 0#8 = BitVec.ofNat 8 (barBytes s).1 ∧ (composeFrame s).getD 41 0#8 = lampByte s ∧
      (composeFrame s).getD 42 0#8 = if (barBytes s).2 then 1#8 else 0#8 := by
  have h1 := (screenLines_full s).first.width
  have h2 := (shownLine2_field s).width
  unfold composeFrame
  generalize (screenLines s).line1 = a at *
  generalize shownLine2 s = b at *
  refine ⟨by simp [h1, h2], ?_, ?_, ?_, ?_, ?_⟩
  · simp [List.take_append, h1, h2]
  · simp [h1, h2]
  · simp [List.getD, h1, h2]
  · simp [List.getD, h1, h2]
  · simp [List.getD, h1, h2]

/-- A lamp bit of the byte. -/
theorem lampByte_bits (s : State) : lampByte s &&& 0xC0#8 = 0#8 ∧
    (lampByte s).getLsbD 0 = overloadLamp s ∧ (lampByte s).getLsbD 1 = lastPassLamp s ∧
    (lampByte s).getLsbD 2 = s.prod.degraded ∧ (lampByte s).getLsbD 3 = (s.weigher.state == .noCal) ∧
    (lampByte s).getLsbD 4 = (s.journal.jstate == .fault) ∧ (lampByte s).getLsbD 5 = s.line.clash := by
  have hall : ∀ a b c d e f : Bool,
      let bit := fun (b : Bool) (n : Nat) => if b then (1#8 <<< n) else 0#8
      let x := bit a 0 ||| bit b 1 ||| bit c 2 ||| bit d 3 ||| bit e 4 ||| bit f 5
      x &&& 0xC0#8 = 0#8 ∧ x.getLsbD 0 = a ∧ x.getLsbD 1 = b ∧ x.getLsbD 2 = c ∧ x.getLsbD 3 = d ∧
        x.getLsbD 4 = e ∧ x.getLsbD 5 = f := by decide
  exact hall _ _ _ _ _ _

theorem overloadLamp_iff (s : State) :
    overloadLamp s = true ↔ ∃ e back, s.trucks.entries = e :: back ∧ e.flags.overload = true := by
  unfold overloadLamp
  cases s.trucks.entries <;> simp

theorem adviceFor_lastPass_iff (rated : Int) (e : TruckEntry) :
    adviceFor rated e = .lastPass ↔ 0 < e.target - e.total ∧ e.target - e.total < rated := by
  unfold adviceFor
  dsimp only
  split
  · next h => exact iff_of_false nofun fun hlt => not_lt.2 h hlt.1
  · next h =>
    split
    · next hlt => exact iff_of_true rfl ⟨not_le.1 h, hlt⟩
    · next hge => exact iff_of_false nofun fun hlt => hge hlt.2

theorem lastPassLamp_iff (s : State) : lastPassLamp s = true ↔ ∃ e back, s.trucks.entries = e :: back ∧
    0 < e.target - e.total ∧ e.target - e.total < ratedLoad s := by
  unfold lastPassLamp
  cases s.trucks.entries with
  | nil => simp
  | cons e rest =>
    rw [beq_iff_eq, adviceFor_lastPass_iff]
    exact ⟨fun h => ⟨e, rest, rfl, h⟩, fun ⟨_, _, heq, h⟩ => by cases heq; exact h⟩

theorem degraded_iff (p : ProducerTable) :
    p.degraded = true ↔ ∃ ch id, (p.slot ch id).state = .silent ∨ (p.slot ch id).state = .faulty := by
  have hmem (ch : Channel) : ch ∈ allChannels := by cases ch <;> decide
  have hslots (x : Slot) : x ∈ p.slots ↔ ∃ ch id, p.slot ch id = x := by
    unfold ProducerTable.slots
    rw [List.mem_flatMap]
    constructor
    · rintro ⟨ch, -, hx⟩
      rcases List.mem_pair.1 hx with rfl | rfl
      · exact ⟨ch, .primary, rfl⟩
      · exact ⟨ch, .secondary, rfl⟩
    · rintro ⟨ch, id, rfl⟩
      exact ⟨ch, hmem ch, by cases id <;> simp⟩
  unfold ProducerTable.degraded
  rw [List.any_eq_true]
  simp only [hslots, Bool.or_eq_true, beq_iff_eq]
  exact ⟨fun ⟨_, ⟨ch, id, rfl⟩, h⟩ => ⟨ch, id, h⟩, fun ⟨ch, id, h⟩ => ⟨_, ⟨ch, id, rfl⟩, h⟩⟩

theorem barBytes_of_some {p : PassRecord} (h : s.pass.pending.or s.pass.lastShown = some p) :
    barBytes s = (barSegments p.fill, decide (1100 < p.fill)) := by
  unfold barBytes bucketFigure
  cases hpending : s.pass.pending with
  | some x =>
    obtain rfl : x = p := by simpa [hpending] using h
    rfl
  | none =>
    have hlast : s.pass.lastShown = some p := by simpa [hpending] using h
    rw [hlast]
    rfl

theorem barBytes_of_none (h : s.pass.pending.or s.pass.lastShown = none) : barBytes s = (0, false) := by
  obtain ⟨hpending, hlast⟩ := Option.or_eq_none_iff.1 h
  unfold barBytes bucketFigure
  rw [hpending, hlast]
  rfl

theorem barSegments_le (fill : Int) : barSegments fill ≤ 20 := min_le_left _ _

theorem barBytes_le (s : State) : (barBytes s).1 ≤ 20 := by
  cases h : s.pass.pending.or s.pass.lastShown with
  | some p => rw [barBytes_of_some h]; exact barSegments_le _
  | none => rw [barBytes_of_none h]; exact Nat.zero_le _

/-- Settles O48: the lines by the widths of their fields, and each byte by its own lemma. -/
theorem framesAreWellFormed : Obligations.FramesAreWellFormed := by
  intro s
  obtain ⟨hlength, hchars, hline2, hbar, hlamps, hmode⟩ := composeFrame_parts s
  obtain ⟨hhigh, h0, h1, h2, h3, h4, h5⟩ := lampByte_bits s
  have hsegments : (BitVec.ofNat 8 (barBytes s).1).toNat = (barBytes s).1 := by
    have hle := barBytes_le s
    rw [BitVec.toNat_ofNat, Nat.mod_eq_of_lt (by omega)]
  have hblinks : ((if (barBytes s).2 then 1#8 else 0#8 : Byte).getLsbD 0 = true) ↔ (barBytes s).2 = true := by
    cases (barBytes s).2 <;> decide
  rw [hchars, hline2, hbar, hlamps, hmode]
  refine ⟨hlength, (screenLines_full s).first.chars.append (shownLine2_field s).chars, ?_, hhigh, ?_, fun m hm => ?_, ?_⟩
  · rw [hsegments]
    exact barBytes_le s
  · cases (barBytes s).2 <;> decide
  · unfold shownLine2
    rw [hm]
  · intro lamp segments blinks figure
    refine ⟨?_, ?_, ?_, ?_, ?_, ?_, fun p hp => ?_, fun hp => ?_⟩
    · exact (Bool.eq_iff_iff.1 h0).trans (overloadLamp_iff s)
    · exact (Bool.eq_iff_iff.1 h1).trans (lastPassLamp_iff s)
    · exact (Bool.eq_iff_iff.1 h2).trans (degraded_iff s.prod)
    · exact (Bool.eq_iff_iff.1 h3).trans beq_iff_eq
    · exact (Bool.eq_iff_iff.1 h4).trans beq_iff_eq
    · exact Bool.eq_iff_iff.1 h5
    · have hcount : segments = barSegments p.fill := hsegments.trans (congrArg Prod.fst (barBytes_of_some hp))
      refine ⟨fun hlow => ?_, fun hfull => ?_, hblinks.trans ?_⟩
      · rw [hcount, barSegments]
        omega
      · rw [hcount, barSegments]
        omega
      · rw [barBytes_of_some hp, decide_eq_true_iff]
    · have hnone := barBytes_of_none hp
      refine ⟨hsegments.trans (congrArg Prod.fst hnone), fun h => ?_⟩
      have hlit := hblinks.1 h
      rw [hnone] at hlit
      exact Bool.false_ne_true hlit

end Sys2Proof.Machine
end

section
/-! PROOFS. A record written in an erased sector is found by the next scan (R187, R191, R198). -/

namespace Sys2Proof.Machine

variable {m : List StoreCell} {n a : Nat}

/-! ## Words of an erased sector, programmed -/

/-- Every word of a sector that is wholly erased reads erased. -/
theorem read_of_fullyErased {b : Nat} (h : fullyErased m n = true) (hb : b / sectorWords = n) :
    Store.read m b = erasedWord := by
  have hcells : ∀ c ∈ m, c.1 ≠ b := fun c hc heq => by
    have hnone := List.filter_eq_nil_iff.1 (List.isEmpty_iff.1 h) c hc
    exact hnone (by simp [heq, hb])
  clear h
  induction m with
  | nil => rfl
  | cons c m ih =>
    obtain ⟨d, v⟩ := c
    rw [Store.read, if_neg (hcells (d, v) List.mem_cons_self).symm]
    exact ih fun c hc => hcells c (List.mem_cons_of_mem _ hc)

/-- Word programs over erased words are verified and leave the words. -/
theorem program_of_erased : ∀ {ws : List Word} {m : List StoreCell} {a : Nat}, Store.wf m →
    a + ws.length ≤ storeWords → (∀ k, k < ws.length → Store.read m (a + k) = erasedWord) →
    (Store.program m a ws).2 = true ∧ ∀ b, Store.read (Store.program m a ws).1 b =
      if a ≤ b ∧ b < a + ws.length then ws.getD (b - a) 0 else Store.read m b
  | [], m, a, _, _, _ => ⟨rfl, fun b => (if_neg (by simp)).symm⟩
  | w :: ws, m, a, hm, hend, herased => by
    rw [List.length_cons] at hend herased
    have hones : erasedWord &&& w = w := BitVec.allOnes_and
    have hfirst : Store.read m a = erasedWord := herased 0 (by omega)
    have hwrite (b : Nat) : Store.read (Store.write m a w) b = if b = a then w else Store.read m b :=
      Store.read_write hm (by omega)
    obtain ⟨hverified, hreads⟩ := program_of_erased (ws := ws) (m := Store.write m a w) (a := a + 1)
      (Store.wf_write hm) (by omega) fun k hk => by
        rw [hwrite, if_neg (by omega), Nat.add_assoc, Nat.add_comm 1]
        exact herased (k + 1) (by omega)
    have hprogram : Store.program m a (w :: ws) = Store.program (Store.write m a w) (a + 1) ws := by
      rw [Store.program, hfirst, hones]
      exact if_pos rfl
    rw [hprogram]
    refine ⟨hverified, fun b => ?_⟩
    rw [hreads, hwrite, List.length_cons]
    rcases lt_trichotomy b a with hlt | rfl | hgt
    · rw [if_neg (by omega), if_neg hlt.ne, if_neg (by omega)]
    · rw [if_neg (by omega), if_pos rfl, if_pos (by omega), Nat.sub_self, List.getD_cons_zero]
    · rw [if_neg hgt.ne', show b - a = b - (a + 1) + 1 by omega, List.getD_cons_succ]
      exact if_congr (by omega) rfl rfl

/-- The words of a run are those that its addresses read. -/
theorem slice_of_read : ∀ {ws : List Word} {a : Nat},
    (∀ k, k < ws.length → Store.read m (a + k) = ws.getD k 0) → Store.slice m a ws.length = ws
  | [], _, _ => rfl
  | w :: ws, a, h => by
    have hfirst : Store.read m a = w := by simpa using h 0 (by simp)
    have hrest : Store.slice m (a + 1) ws.length = ws := slice_of_read fun k hk => by
      simpa [Nat.add_assoc, Nat.add_comm 1] using h (k + 1) (by simpa using hk)
    rw [List.length_cons, Store.slice, hfirst, hrest]

/-! ## The header of a record (R187, R219) -/

theorem RecordKind.ofCode_code (k : RecordKind) : RecordKind.ofCode k.code = some k := by cases k <;> rfl

theorem RecordKind.code_lt (k : RecordKind) : k.code < 15 := by cases k <;> decide

theorem recordLength_lt {k : RecordKind} {len : Nat} (h : k.allowsLength len = true) : 4 ≤ len ∧ len < 100 := by
  cases k <;> simp [RecordKind.allowsLength] at h <;> omega

/-- The header word of a record. -/
def recordHeader (kind : RecordKind) (len : Nat) : Word := place kind.code 12 ||| place len 0

variable {kind : RecordKind} {len : Nat}

theorem recordHeader_eq (h : len < 100) : recordHeader kind len = natWord (kind.code * 4096 + len) := by
  rw [recordHeader, place_or_place (by omega)]
  exact congrArg natWord (by omega)

theorem field_kind_recordHeader (h : len < 100) : field (recordHeader kind len) 12 4 = kind.code := by
  have hcode := kind.code_lt
  rw [recordHeader_eq h, field_natWord _ _ (by omega)]
  omega

theorem field_length_recordHeader (h : len < 100) : field (recordHeader kind len) 0 12 = len := by
  have hcode := kind.code_lt
  rw [recordHeader_eq h, field_natWord _ _ (by omega)]
  omega

theorem recordHeader_ne_erased (h : len < 100) : recordHeader kind len ≠ erasedWord := fun heq => by
  have hcode := kind.code_lt
  have hfield := field_kind_recordHeader (kind := kind) h
  rw [heq, show field erasedWord 12 4 = 15 from rfl] at hfield
  omega

theorem possibleHeader_recordHeader (h : kind.allowsLength len = true) :
    possibleHeader (recordHeader kind len) 0 = some (kind, len) := by
  obtain ⟨-, hlt⟩ := recordLength_lt h
  unfold possibleHeader
  rw [field_kind_recordHeader hlt, RecordKind.ofCode_code]
  dsimp only
  rw [field_length_recordHeader hlt, h, if_pos]
  simp
  omega

/-! ## The scan (R198) -/

variable {sector pos fuel : Nat} {acc : SectorScan}

theorem scanFrom_of_erased (h : Store.read m (storeAddr sector pos) = erasedWord) :
    scanFrom m sector (fuel + 1) pos acc = acc := by
  unfold scanFrom
  split
  · rfl
  · exact if_pos h

/-- The scan passes a valid record and goes on behind it. -/
theorem scanFrom_of_valid (hpos : pos < 1024) (herased : Store.read m (storeAddr sector pos) ≠ erasedWord)
    (hheader : possibleHeader (Store.read m (storeAddr sector pos)) pos = some (kind, len))
    (hcheck : Store.read m (storeAddr sector (pos + len - 1)) =
      checkWord (Store.slice m (storeAddr sector pos) (len - 1))) :
    scanFrom m sector (fuel + 1) pos acc = scanFrom m sector fuel (pos + len) { acc with
      valid := acc.valid ++
        [{ sector := sector, addr := pos, kind := kind, length := len,
           seq := (long (Store.slice m (storeAddr sector pos) (len - 1)) 1).toNat }],
      fill := pos + len } := by
  conv_lhs => unfold scanFrom
  rw [if_neg (not_le.2 hpos)]
  dsimp only
  rw [if_neg herased, hheader]
  dsimp only
  rw [if_pos hcheck]

/-- Settles O58: the words are programmed as they are, and the scan reads the record's header, its number and its check
word off them. -/
theorem writtenRecordsAreFound : Obligations.WrittenRecordsAreFound := by
  intro m sector kind seq body hm hsector herased hseq hlength written
  obtain ⟨-, hlen⟩ := recordLength_lt hlength
  let front : List Word := recordHeader kind (body.length + 4) :: (natWords seq ++ body)
  have hwords : recordWords kind seq body = front ++ [checkWord front] := rfl
  have hfront : front.length = body.length + 3 := by simp [front, natWords, longWords]
  have hcount : (recordWords kind seq body).length = body.length + 4 := by rw [hwords, List.length_append, hfront]; rfl
  have hsectorErased (k : Nat) (hk : k < 1024) : Store.read m (storeAddr sector k) = erasedWord :=
    read_of_fullyErased herased (by unfold storeAddr sectorWords; omega)
  have hstart (k : Nat) : storeAddr sector 0 + k = storeAddr sector k := rfl
  obtain ⟨hverified, hreads⟩ := program_of_erased (ws := recordWords kind seq body) (a := storeAddr sector 0) hm
    (by rw [hcount]; unfold storeAddr sectorWords storeWords sectorWords; omega)
    fun k hk => hsectorErased k (by omega)
  have hread (k : Nat) : Store.read written.1 (storeAddr sector k) =
      if k < body.length + 4 then (front ++ [checkWord front]).getD k 0 else Store.read m (storeAddr sector k) := by
    rw [← hstart k, hreads, hcount, Nat.add_sub_cancel_left]
    exact if_congr (by omega) rfl rfl
  have hheader : Store.read written.1 (storeAddr sector 0) = recordHeader kind (body.length + 4) :=
    (hread 0).trans (if_pos (by omega))
  have hslice : Store.slice written.1 (storeAddr sector 0) (body.length + 4 - 1) = front := by
    rw [show body.length + 4 - 1 = front.length from hfront.symm]
    refine slice_of_read fun k hk => ?_
    rw [hstart, hread, if_pos (by omega), List.getD_append _ _ _ _ hk]
  have hcheck : Store.read written.1 (storeAddr sector (0 + (body.length + 4) - 1)) = checkWord front := by
    rw [hread, if_pos (by omega), show 0 + (body.length + 4) - 1 = front.length by omega]
    simp [List.getD]
  have hend : Store.read written.1 (storeAddr sector (0 + (body.length + 4))) = erasedWord := by
    rw [hread, if_neg (by omega)]
    exact hsectorErased _ (by omega)
  have hnumber : (long front 1).toNat = seq := by
    rw [show long front 1 = long (natWords seq ++ body) 0 from long_append [recordHeader kind (body.length + 4)] _ 0]
    exact toNat_long_natWords hseq body
  refine ⟨hverified, ?_⟩
  rw [scanSector, scanFrom_of_valid (kind := kind) (len := body.length + 4) (by omega)
    (by rw [hheader]; exact recordHeader_ne_erased hlen) (by rw [hheader]; exact possibleHeader_recordHeader hlength)
    (by rw [hslice, hcheck]), hslice, hnumber, scanFrom_of_erased hend, Nat.zero_add]
  rfl

end Sys2Proof.Machine
end
